-- ==== Sys2Proof/Word.lean ====
section
/-! DEFINITION. The two word types of the CORE (00_scope.md R7, R9): bytes and 16-bit words.
Everything that splits, joins, extends or slices a word is in Decode.lean and under Machine/. -/

namespace Sys2Proof

/-- A u8: a register, a memory byte, an encoded byte (R9). -/
abbrev Byte := BitVec 8

/-- A u16: SP, PC, a pair, an address (R9). -/
abbrev Word := BitVec 16

end Sys2Proof
end

