-- ==== Sys2Proof/Config.lean ====
section
/-! DEFINITION. The implementation parameters of 00_scope.md R8, as one record of plain data, and the two values the
spec leaves open. The record is an argument of construction (70_reset_and_hazards.md R350) and is kept in State, so that
a statement over all states is a statement for every value of every parameter. -/

namespace Sys2Proof

/-- `DAA_CARRY_RULE` (42_arithmetic.md R196, D18): what DAA does with an incoming carry. -/
inductive DaaCarryRule where
  /-- C <- C_in or overflow (the default). -/
  | or
  /-- C <- overflow. -/
  | assign
  deriving DecidableEq, Repr

/-- `ACC_ROTATE_Z` (47_rotate.md, D19): the Z flag of RLCA, RRCA, RLA, RRA. -/
inductive AccRotateZ where
  /-- Z <- 0 (the default). -/
  | clear
  /-- Z <- (result == 0). -/
  | result
  deriving DecidableEq, Repr

/-- `STOP_CLEARS` (48_misc.md R292, D17): what STOP clears. -/
inductive StopClears where
  /-- The byte at 0xFFFF (the default). -/
  | ieRegister
  /-- IME. -/
  | ime
  /-- Both. -/
  | both
  deriving DecidableEq, Repr

/-- `STOP_LENGTH` (48_misc.md R292, D16): the length of STOP in bytes. -/
inductive StopLength where
  | one
  /-- One pad byte follows the opcode (the default). -/
  | two
  deriving DecidableEq, Repr

/-- PC after a STOP whose pad byte is at 0xFFFF, where R292 gives two values and no ruling settles which: no parameter of R8, but a
value the model leaves open between the two (DESIGN CHOICE, log 18). -/
inductive StopPadWrap where
  /-- 0x0000: where `FetchByte()` of the pseudocode leaves it, by 40_engine.md R105 and 10_state.md R28. -/
  | fetch
  /-- 0x0001: the corner case "With the pad at 0xFFFF, PC wraps to 0x0001". -/
  | cornerCase
  deriving DecidableEq, Repr

/-- The parameters of R8 (but the cartridge image, which construction consumes), the open value of R292, and whether the
optional trace sink of 60_exceptions.md R340 is attached (log 5). -/
structure Params where
  /-- `ROM_PAD` (D6). -/
  romPad : Byte
  /-- `MEM_FILL` (D5). -/
  memFill : Byte
  /-- `RESET_BCDEHL` (D4), one value a register. -/
  resetB : Byte
  resetC : Byte
  resetD : Byte
  resetE : Byte
  resetH : Byte
  resetL : Byte
  /-- `CYCLES_PER_ACCESS` (D11, OPEN), a natural number >= 1. -/
  cyclesPerAccess : Nat
  /-- `DAA_CARRY_RULE` (D18). -/
  daaCarryRule : DaaCarryRule
  /-- `ACC_ROTATE_Z` (D19). -/
  accRotateZ : AccRotateZ
  /-- `STOP_CLEARS` (D17). -/
  stopClears : StopClears
  /-- `STOP_LENGTH` (D16). -/
  stopLength : StopLength
  /-- PC after a STOP with its pad byte at 0xFFFF (R292; log 18). -/
  stopPadWrap : StopPadWrap
  /-- Whether a trace sink is attached (R340). -/
  traceSink : Bool
  deriving DecidableEq, Repr

/-- The free value behind `CYCLES_PER_ACCESS`: the spec leaves the parameter OPEN with no default (D11), so the reset
state's value is one more than a number nothing constrains (log 2). -/
opaque Config.openCycles : Nat

/-- The free value behind PC after a STOP with its pad byte at 0xFFFF: it chooses between the two values that R292 gives (log 18). -/
opaque Config.stopPadWrapsToOne : Bool

/-- The parameter values of the reset state: the spec's defaults (R8), a free value for the one parameter without a
default (log 2) and for the open value of R292 (log 18), no trace sink (DESIGN CHOICE, log 5). -/
def Params.default : Params where
  romPad := 0x00
  memFill := 0x00
  resetB := 0x00
  resetC := 0x00
  resetD := 0x00
  resetE := 0x00
  resetH := 0x00
  resetL := 0x00
  cyclesPerAccess := Config.openCycles + 1
  daaCarryRule := .or
  accRotateZ := .clear
  stopClears := .ieRegister
  stopLength := .two
  stopPadWrap := if Config.stopPadWrapsToOne then .cornerCase else .fetch
  traceSink := false

end Sys2Proof
end

