-- ==== Sys2Proof/Syntax.lean ====
section
/-! DEFINITION. The instructions: one constructor for each row of spec/opcode_table.json, in the table's order, with the
immediate the row's format gives it (30_encoding.md R81, R83); and the names of the operand fields (R84 to R87, R90).
STOP's pad byte is no operand (R93, log 10). -/

namespace Sys2Proof

/-- The seven 8-bit registers a register code can name (R84). F is not among them (R21). -/
inductive Reg8 where
  | b | c | d | e | h | l | a
  deriving DecidableEq, Repr

/-- An 8-bit operand: a register, or the byte at address HL, which is register code 6 (R84). -/
inductive Operand8 where
  | reg (r : Reg8)
  | hlInd
  deriving DecidableEq, Repr

/-- The pairs of `rp` (R85). -/
inductive Pair where
  | bc | de | hl | sp
  deriving DecidableEq, Repr

/-- The pairs of `rp2`, for PUSH and POP (R85). -/
inductive StackPair where
  | bc | de | hl | af
  deriving DecidableEq, Repr

/-- The condition codes (R86). -/
inductive Cond where
  | nz | z | nc | c
  deriving DecidableEq, Repr

/-- The ALU operations of field y (R87). -/
inductive AluOp where
  | add | adc | sub | sbc | and | xor | or | cp
  deriving DecidableEq, Repr

/-- The rotate and shift sub-operations of the secondary table (R90). -/
inductive ShiftOp where
  | rlc | rrc | rl | rr | sla | sra | swap | srl
  deriving DecidableEq, Repr

/-- The instructions. -/
inductive Instr where
  | nop  -- NOP: 0x00, R290
  | ldBcD16 (d16 : Word)  -- LD BC,d16: 0x01, R169
  | ldIndBcA  -- LD (BC),A: 0x02, R157
  | incBc  -- INC BC: 0x03, R224
  | incB  -- INC B: 0x04, R220
  | decB  -- DEC B: 0x05, R222
  | ldBD8 (d8 : Byte)  -- LD B,d8: 0x06, R153
  | rlca  -- RLCA: 0x07, R280
  | ldIndA16Sp (a16 : Word)  -- LD (a16),SP: 0x08, R170
  | addHlBc  -- ADD HL,BC: 0x09, R195
  | ldAIndBc  -- LD A,(BC): 0x0A, R155
  | decBc  -- DEC BC: 0x0B, R225
  | incC  -- INC C: 0x0C, R220
  | decC  -- DEC C: 0x0D, R222
  | ldCD8 (d8 : Byte)  -- LD C,d8: 0x0E, R153
  | rrca  -- RRCA: 0x0F, R281
  | stop  -- STOP: 0x10, R292
  | ldDeD16 (d16 : Word)  -- LD DE,d16: 0x11, R169
  | ldIndDeA  -- LD (DE),A: 0x12, R158
  | incDe  -- INC DE: 0x13, R224
  | incD  -- INC D: 0x14, R220
  | decD  -- DEC D: 0x15, R222
  | ldDD8 (d8 : Byte)  -- LD D,d8: 0x16, R153
  | rla  -- RLA: 0x17, R282
  | jrE8 (e8 : Byte)  -- JR e8: 0x18, R243
  | addHlDe  -- ADD HL,DE: 0x19, R195
  | ldAIndDe  -- LD A,(DE): 0x1A, R156
  | decDe  -- DEC DE: 0x1B, R225
  | incE  -- INC E: 0x1C, R220
  | decE  -- DEC E: 0x1D, R222
  | ldED8 (d8 : Byte)  -- LD E,d8: 0x1E, R153
  | rra  -- RRA: 0x1F, R283
  | jrNzE8 (e8 : Byte)  -- JR NZ,e8: 0x20, R244
  | ldHlD16 (d16 : Word)  -- LD HL,d16: 0x21, R169
  | ldIndHlIncA  -- LD (HL+),A: 0x22, R165
  | incHl  -- INC HL: 0x23, R224
  | incH  -- INC H: 0x24, R220
  | decH  -- DEC H: 0x25, R222
  | ldHD8 (d8 : Byte)  -- LD H,d8: 0x26, R153
  | daa  -- DAA: 0x27, R196
  | jrZE8 (e8 : Byte)  -- JR Z,e8: 0x28, R244
  | addHlHl  -- ADD HL,HL: 0x29, R195
  | ldAIndHlInc  -- LD A,(HL+): 0x2A, R167
  | decHl  -- DEC HL: 0x2B, R225
  | incL  -- INC L: 0x2C, R220
  | decL  -- DEC L: 0x2D, R222
  | ldLD8 (d8 : Byte)  -- LD L,d8: 0x2E, R153
  | cpl  -- CPL: 0x2F, R209
  | jrNcE8 (e8 : Byte)  -- JR NC,e8: 0x30, R244
  | ldSpD16 (d16 : Word)  -- LD SP,d16: 0x31, R169
  | ldIndHlDecA  -- LD (HL-),A: 0x32, R166
  | incSp  -- INC SP: 0x33, R224
  | incIndHl  -- INC (HL): 0x34, R221
  | decIndHl  -- DEC (HL): 0x35, R223
  | ldIndHlD8 (d8 : Byte)  -- LD (HL),d8: 0x36, R154
  | scf  -- SCF: 0x37, R295
  | jrCE8 (e8 : Byte)  -- JR C,e8: 0x38, R244
  | addHlSp  -- ADD HL,SP: 0x39, R195
  | ldAIndHlDec  -- LD A,(HL-): 0x3A, R168
  | decSp  -- DEC SP: 0x3B, R225
  | incA  -- INC A: 0x3C, R220
  | decA  -- DEC A: 0x3D, R222
  | ldAD8 (d8 : Byte)  -- LD A,d8: 0x3E, R153
  | ccf  -- CCF: 0x3F, R296
  | ldBB  -- LD B,B: 0x40, R150
  | ldBC  -- LD B,C: 0x41, R150
  | ldBD  -- LD B,D: 0x42, R150
  | ldBE  -- LD B,E: 0x43, R150
  | ldBH  -- LD B,H: 0x44, R150
  | ldBL  -- LD B,L: 0x45, R150
  | ldBIndHl  -- LD B,(HL): 0x46, R151
  | ldBA  -- LD B,A: 0x47, R150
  | ldCB  -- LD C,B: 0x48, R150
  | ldCC  -- LD C,C: 0x49, R150
  | ldCD  -- LD C,D: 0x4A, R150
  | ldCE  -- LD C,E: 0x4B, R150
  | ldCH  -- LD C,H: 0x4C, R150
  | ldCL  -- LD C,L: 0x4D, R150
  | ldCIndHl  -- LD C,(HL): 0x4E, R151
  | ldCA  -- LD C,A: 0x4F, R150
  | ldDB  -- LD D,B: 0x50, R150
  | ldDC  -- LD D,C: 0x51, R150
  | ldDD  -- LD D,D: 0x52, R150
  | ldDE  -- LD D,E: 0x53, R150
  | ldDH  -- LD D,H: 0x54, R150
  | ldDL  -- LD D,L: 0x55, R150
  | ldDIndHl  -- LD D,(HL): 0x56, R151
  | ldDA  -- LD D,A: 0x57, R150
  | ldEB  -- LD E,B: 0x58, R150
  | ldEC  -- LD E,C: 0x59, R150
  | ldED  -- LD E,D: 0x5A, R150
  | ldEE  -- LD E,E: 0x5B, R150
  | ldEH  -- LD E,H: 0x5C, R150
  | ldEL  -- LD E,L: 0x5D, R150
  | ldEIndHl  -- LD E,(HL): 0x5E, R151
  | ldEA  -- LD E,A: 0x5F, R150
  | ldHB  -- LD H,B: 0x60, R150
  | ldHC  -- LD H,C: 0x61, R150
  | ldHD  -- LD H,D: 0x62, R150
  | ldHE  -- LD H,E: 0x63, R150
  | ldHH  -- LD H,H: 0x64, R150
  | ldHL  -- LD H,L: 0x65, R150
  | ldHIndHl  -- LD H,(HL): 0x66, R151
  | ldHA  -- LD H,A: 0x67, R150
  | ldLB  -- LD L,B: 0x68, R150
  | ldLC  -- LD L,C: 0x69, R150
  | ldLD  -- LD L,D: 0x6A, R150
  | ldLE  -- LD L,E: 0x6B, R150
  | ldLH  -- LD L,H: 0x6C, R150
  | ldLL  -- LD L,L: 0x6D, R150
  | ldLIndHl  -- LD L,(HL): 0x6E, R151
  | ldLA  -- LD L,A: 0x6F, R150
  | ldIndHlB  -- LD (HL),B: 0x70, R152
  | ldIndHlC  -- LD (HL),C: 0x71, R152
  | ldIndHlD  -- LD (HL),D: 0x72, R152
  | ldIndHlE  -- LD (HL),E: 0x73, R152
  | ldIndHlH  -- LD (HL),H: 0x74, R152
  | ldIndHlL  -- LD (HL),L: 0x75, R152
  | halt  -- HALT: 0x76, R291
  | ldIndHlA  -- LD (HL),A: 0x77, R152
  | ldAB  -- LD A,B: 0x78, R150
  | ldAC  -- LD A,C: 0x79, R150
  | ldAD  -- LD A,D: 0x7A, R150
  | ldAE  -- LD A,E: 0x7B, R150
  | ldAH  -- LD A,H: 0x7C, R150
  | ldAL  -- LD A,L: 0x7D, R150
  | ldAIndHl  -- LD A,(HL): 0x7E, R151
  | ldAA  -- LD A,A: 0x7F, R150
  | addAB  -- ADD A,B: 0x80, R180
  | addAC  -- ADD A,C: 0x81, R180
  | addAD  -- ADD A,D: 0x82, R180
  | addAE  -- ADD A,E: 0x83, R180
  | addAH  -- ADD A,H: 0x84, R180
  | addAL  -- ADD A,L: 0x85, R180
  | addAIndHl  -- ADD A,(HL): 0x86, R181
  | addAA  -- ADD A,A: 0x87, R180
  | adcAB  -- ADC A,B: 0x88, R183
  | adcAC  -- ADC A,C: 0x89, R183
  | adcAD  -- ADC A,D: 0x8A, R183
  | adcAE  -- ADC A,E: 0x8B, R183
  | adcAH  -- ADC A,H: 0x8C, R183
  | adcAL  -- ADC A,L: 0x8D, R183
  | adcAIndHl  -- ADC A,(HL): 0x8E, R184
  | adcAA  -- ADC A,A: 0x8F, R183
  | subB  -- SUB B: 0x90, R186
  | subC  -- SUB C: 0x91, R186
  | subD  -- SUB D: 0x92, R186
  | subE  -- SUB E: 0x93, R186
  | subH  -- SUB H: 0x94, R186
  | subL  -- SUB L: 0x95, R186
  | subIndHl  -- SUB (HL): 0x96, R187
  | subA  -- SUB A: 0x97, R186
  | sbcAB  -- SBC A,B: 0x98, R189
  | sbcAC  -- SBC A,C: 0x99, R189
  | sbcAD  -- SBC A,D: 0x9A, R189
  | sbcAE  -- SBC A,E: 0x9B, R189
  | sbcAH  -- SBC A,H: 0x9C, R189
  | sbcAL  -- SBC A,L: 0x9D, R189
  | sbcAIndHl  -- SBC A,(HL): 0x9E, R190
  | sbcAA  -- SBC A,A: 0x9F, R189
  | andB  -- AND B: 0xA0, R200
  | andC  -- AND C: 0xA1, R200
  | andD  -- AND D: 0xA2, R200
  | andE  -- AND E: 0xA3, R200
  | andH  -- AND H: 0xA4, R200
  | andL  -- AND L: 0xA5, R200
  | andIndHl  -- AND (HL): 0xA6, R201
  | andA  -- AND A: 0xA7, R200
  | xorB  -- XOR B: 0xA8, R203
  | xorC  -- XOR C: 0xA9, R203
  | xorD  -- XOR D: 0xAA, R203
  | xorE  -- XOR E: 0xAB, R203
  | xorH  -- XOR H: 0xAC, R203
  | xorL  -- XOR L: 0xAD, R203
  | xorIndHl  -- XOR (HL): 0xAE, R204
  | xorA  -- XOR A: 0xAF, R203
  | orB  -- OR B: 0xB0, R206
  | orC  -- OR C: 0xB1, R206
  | orD  -- OR D: 0xB2, R206
  | orE  -- OR E: 0xB3, R206
  | orH  -- OR H: 0xB4, R206
  | orL  -- OR L: 0xB5, R206
  | orIndHl  -- OR (HL): 0xB6, R207
  | orA  -- OR A: 0xB7, R206
  | cpB  -- CP B: 0xB8, R192
  | cpC  -- CP C: 0xB9, R192
  | cpD  -- CP D: 0xBA, R192
  | cpE  -- CP E: 0xBB, R192
  | cpH  -- CP H: 0xBC, R192
  | cpL  -- CP L: 0xBD, R192
  | cpIndHl  -- CP (HL): 0xBE, R193
  | cpA  -- CP A: 0xBF, R192
  | retNz  -- RET NZ: 0xC0, R248
  | popBc  -- POP BC: 0xC1, R263
  | jpNzA16 (a16 : Word)  -- JP NZ,a16: 0xC2, R241
  | jpA16 (a16 : Word)  -- JP a16: 0xC3, R240
  | callNzA16 (a16 : Word)  -- CALL NZ,a16: 0xC4, R246
  | pushBc  -- PUSH BC: 0xC5, R262
  | addAD8 (d8 : Byte)  -- ADD A,d8: 0xC6, R182
  | rst00  -- RST 00H: 0xC7, R251
  | retZ  -- RET Z: 0xC8, R248
  | ret  -- RET: 0xC9, R247
  | jpZA16 (a16 : Word)  -- JP Z,a16: 0xCA, R241
  /-- PREFIX CB, 0xCB (R89, R300): the escape byte alone; it runs the secondary instruction of the next byte (log 6). -/
  | prefixCb
  | callZA16 (a16 : Word)  -- CALL Z,a16: 0xCC, R246
  | callA16 (a16 : Word)  -- CALL a16: 0xCD, R245
  | adcAD8 (d8 : Byte)  -- ADC A,d8: 0xCE, R185
  | rst08  -- RST 08H: 0xCF, R251
  | retNc  -- RET NC: 0xD0, R248
  | popDe  -- POP DE: 0xD1, R263
  | jpNcA16 (a16 : Word)  -- JP NC,a16: 0xD2, R241
  | callNcA16 (a16 : Word)  -- CALL NC,a16: 0xD4, R246
  | pushDe  -- PUSH DE: 0xD5, R262
  | subD8 (d8 : Byte)  -- SUB d8: 0xD6, R188
  | rst10  -- RST 10H: 0xD7, R251
  | retC  -- RET C: 0xD8, R248
  | reti  -- RETI: 0xD9, R249
  | jpCA16 (a16 : Word)  -- JP C,a16: 0xDA, R241
  | callCA16 (a16 : Word)  -- CALL C,a16: 0xDC, R246
  | sbcAD8 (d8 : Byte)  -- SBC A,d8: 0xDE, R191
  | rst18  -- RST 18H: 0xDF, R251
  | ldhIndA8A (a8 : Byte)  -- LDH (a8),A: 0xE0, R162
  | popHl  -- POP HL: 0xE1, R263
  | ldIndCA  -- LD (C),A: 0xE2, R164
  | pushHl  -- PUSH HL: 0xE5, R262
  | andD8 (d8 : Byte)  -- AND d8: 0xE6, R202
  | rst20  -- RST 20H: 0xE7, R251
  | addSpE8 (e8 : Byte)  -- ADD SP,e8: 0xE8, R197
  | jpHl  -- JP HL: 0xE9, R242
  | ldIndA16A (a16 : Word)  -- LD (a16),A: 0xEA, R160
  | xorD8 (d8 : Byte)  -- XOR d8: 0xEE, R205
  | rst28  -- RST 28H: 0xEF, R251
  | ldhAIndA8 (a8 : Byte)  -- LDH A,(a8): 0xF0, R161
  | popAf  -- POP AF: 0xF1, R263
  | ldAIndC  -- LD A,(C): 0xF2, R163
  | di  -- DI: 0xF3, R293
  | pushAf  -- PUSH AF: 0xF5, R262
  | orD8 (d8 : Byte)  -- OR d8: 0xF6, R208
  | rst30  -- RST 30H: 0xF7, R251
  | ldHlSpE8 (e8 : Byte)  -- LD HL,SP+e8: 0xF8, R172
  | ldSpHl  -- LD SP,HL: 0xF9, R171
  | ldAIndA16 (a16 : Word)  -- LD A,(a16): 0xFA, R159
  | ei  -- EI: 0xFB, R294
  | cpD8 (d8 : Byte)  -- CP d8: 0xFE, R194
  | rst38  -- RST 38H: 0xFF, R251
  | rlcB  -- RLC B: 0xCB 0x00, R301
  | rlcC  -- RLC C: 0xCB 0x01, R301
  | rlcD  -- RLC D: 0xCB 0x02, R301
  | rlcE  -- RLC E: 0xCB 0x03, R301
  | rlcH  -- RLC H: 0xCB 0x04, R301
  | rlcL  -- RLC L: 0xCB 0x05, R301
  | rlcIndHl  -- RLC (HL): 0xCB 0x06, R301
  | rlcA  -- RLC A: 0xCB 0x07, R301
  | rrcB  -- RRC B: 0xCB 0x08, R302
  | rrcC  -- RRC C: 0xCB 0x09, R302
  | rrcD  -- RRC D: 0xCB 0x0A, R302
  | rrcE  -- RRC E: 0xCB 0x0B, R302
  | rrcH  -- RRC H: 0xCB 0x0C, R302
  | rrcL  -- RRC L: 0xCB 0x0D, R302
  | rrcIndHl  -- RRC (HL): 0xCB 0x0E, R302
  | rrcA  -- RRC A: 0xCB 0x0F, R302
  | rlB  -- RL B: 0xCB 0x10, R303
  | rlC  -- RL C: 0xCB 0x11, R303
  | rlD  -- RL D: 0xCB 0x12, R303
  | rlE  -- RL E: 0xCB 0x13, R303
  | rlH  -- RL H: 0xCB 0x14, R303
  | rlL  -- RL L: 0xCB 0x15, R303
  | rlIndHl  -- RL (HL): 0xCB 0x16, R303
  | rlA  -- RL A: 0xCB 0x17, R303
  | rrB  -- RR B: 0xCB 0x18, R304
  | rrC  -- RR C: 0xCB 0x19, R304
  | rrD  -- RR D: 0xCB 0x1A, R304
  | rrE  -- RR E: 0xCB 0x1B, R304
  | rrH  -- RR H: 0xCB 0x1C, R304
  | rrL  -- RR L: 0xCB 0x1D, R304
  | rrIndHl  -- RR (HL): 0xCB 0x1E, R304
  | rrA  -- RR A: 0xCB 0x1F, R304
  | slaB  -- SLA B: 0xCB 0x20, R305
  | slaC  -- SLA C: 0xCB 0x21, R305
  | slaD  -- SLA D: 0xCB 0x22, R305
  | slaE  -- SLA E: 0xCB 0x23, R305
  | slaH  -- SLA H: 0xCB 0x24, R305
  | slaL  -- SLA L: 0xCB 0x25, R305
  | slaIndHl  -- SLA (HL): 0xCB 0x26, R305
  | slaA  -- SLA A: 0xCB 0x27, R305
  | sraB  -- SRA B: 0xCB 0x28, R306
  | sraC  -- SRA C: 0xCB 0x29, R306
  | sraD  -- SRA D: 0xCB 0x2A, R306
  | sraE  -- SRA E: 0xCB 0x2B, R306
  | sraH  -- SRA H: 0xCB 0x2C, R306
  | sraL  -- SRA L: 0xCB 0x2D, R306
  | sraIndHl  -- SRA (HL): 0xCB 0x2E, R306
  | sraA  -- SRA A: 0xCB 0x2F, R306
  | swapB  -- SWAP B: 0xCB 0x30, R307
  | swapC  -- SWAP C: 0xCB 0x31, R307
  | swapD  -- SWAP D: 0xCB 0x32, R307
  | swapE  -- SWAP E: 0xCB 0x33, R307
  | swapH  -- SWAP H: 0xCB 0x34, R307
  | swapL  -- SWAP L: 0xCB 0x35, R307
  | swapIndHl  -- SWAP (HL): 0xCB 0x36, R307
  | swapA  -- SWAP A: 0xCB 0x37, R307
  | srlB  -- SRL B: 0xCB 0x38, R308
  | srlC  -- SRL C: 0xCB 0x39, R308
  | srlD  -- SRL D: 0xCB 0x3A, R308
  | srlE  -- SRL E: 0xCB 0x3B, R308
  | srlH  -- SRL H: 0xCB 0x3C, R308
  | srlL  -- SRL L: 0xCB 0x3D, R308
  | srlIndHl  -- SRL (HL): 0xCB 0x3E, R308
  | srlA  -- SRL A: 0xCB 0x3F, R308
  | bit0B  -- BIT 0,B: 0xCB 0x40, R309
  | bit0C  -- BIT 0,C: 0xCB 0x41, R309
  | bit0D  -- BIT 0,D: 0xCB 0x42, R309
  | bit0E  -- BIT 0,E: 0xCB 0x43, R309
  | bit0H  -- BIT 0,H: 0xCB 0x44, R309
  | bit0L  -- BIT 0,L: 0xCB 0x45, R309
  | bit0IndHl  -- BIT 0,(HL): 0xCB 0x46, R309
  | bit0A  -- BIT 0,A: 0xCB 0x47, R309
  | bit1B  -- BIT 1,B: 0xCB 0x48, R309
  | bit1C  -- BIT 1,C: 0xCB 0x49, R309
  | bit1D  -- BIT 1,D: 0xCB 0x4A, R309
  | bit1E  -- BIT 1,E: 0xCB 0x4B, R309
  | bit1H  -- BIT 1,H: 0xCB 0x4C, R309
  | bit1L  -- BIT 1,L: 0xCB 0x4D, R309
  | bit1IndHl  -- BIT 1,(HL): 0xCB 0x4E, R309
  | bit1A  -- BIT 1,A: 0xCB 0x4F, R309
  | bit2B  -- BIT 2,B: 0xCB 0x50, R309
  | bit2C  -- BIT 2,C: 0xCB 0x51, R309
  | bit2D  -- BIT 2,D: 0xCB 0x52, R309
  | bit2E  -- BIT 2,E: 0xCB 0x53, R309
  | bit2H  -- BIT 2,H: 0xCB 0x54, R309
  | bit2L  -- BIT 2,L: 0xCB 0x55, R309
  | bit2IndHl  -- BIT 2,(HL): 0xCB 0x56, R309
  | bit2A  -- BIT 2,A: 0xCB 0x57, R309
  | bit3B  -- BIT 3,B: 0xCB 0x58, R309
  | bit3C  -- BIT 3,C: 0xCB 0x59, R309
  | bit3D  -- BIT 3,D: 0xCB 0x5A, R309
  | bit3E  -- BIT 3,E: 0xCB 0x5B, R309
  | bit3H  -- BIT 3,H: 0xCB 0x5C, R309
  | bit3L  -- BIT 3,L: 0xCB 0x5D, R309
  | bit3IndHl  -- BIT 3,(HL): 0xCB 0x5E, R309
  | bit3A  -- BIT 3,A: 0xCB 0x5F, R309
  | bit4B  -- BIT 4,B: 0xCB 0x60, R309
  | bit4C  -- BIT 4,C: 0xCB 0x61, R309
  | bit4D  -- BIT 4,D: 0xCB 0x62, R309
  | bit4E  -- BIT 4,E: 0xCB 0x63, R309
  | bit4H  -- BIT 4,H: 0xCB 0x64, R309
  | bit4L  -- BIT 4,L: 0xCB 0x65, R309
  | bit4IndHl  -- BIT 4,(HL): 0xCB 0x66, R309
  | bit4A  -- BIT 4,A: 0xCB 0x67, R309
  | bit5B  -- BIT 5,B: 0xCB 0x68, R309
  | bit5C  -- BIT 5,C: 0xCB 0x69, R309
  | bit5D  -- BIT 5,D: 0xCB 0x6A, R309
  | bit5E  -- BIT 5,E: 0xCB 0x6B, R309
  | bit5H  -- BIT 5,H: 0xCB 0x6C, R309
  | bit5L  -- BIT 5,L: 0xCB 0x6D, R309
  | bit5IndHl  -- BIT 5,(HL): 0xCB 0x6E, R309
  | bit5A  -- BIT 5,A: 0xCB 0x6F, R309
  | bit6B  -- BIT 6,B: 0xCB 0x70, R309
  | bit6C  -- BIT 6,C: 0xCB 0x71, R309
  | bit6D  -- BIT 6,D: 0xCB 0x72, R309
  | bit6E  -- BIT 6,E: 0xCB 0x73, R309
  | bit6H  -- BIT 6,H: 0xCB 0x74, R309
  | bit6L  -- BIT 6,L: 0xCB 0x75, R309
  | bit6IndHl  -- BIT 6,(HL): 0xCB 0x76, R309
  | bit6A  -- BIT 6,A: 0xCB 0x77, R309
  | bit7B  -- BIT 7,B: 0xCB 0x78, R309
  | bit7C  -- BIT 7,C: 0xCB 0x79, R309
  | bit7D  -- BIT 7,D: 0xCB 0x7A, R309
  | bit7E  -- BIT 7,E: 0xCB 0x7B, R309
  | bit7H  -- BIT 7,H: 0xCB 0x7C, R309
  | bit7L  -- BIT 7,L: 0xCB 0x7D, R309
  | bit7IndHl  -- BIT 7,(HL): 0xCB 0x7E, R309
  | bit7A  -- BIT 7,A: 0xCB 0x7F, R309
  | res0B  -- RES 0,B: 0xCB 0x80, R310
  | res0C  -- RES 0,C: 0xCB 0x81, R310
  | res0D  -- RES 0,D: 0xCB 0x82, R310
  | res0E  -- RES 0,E: 0xCB 0x83, R310
  | res0H  -- RES 0,H: 0xCB 0x84, R310
  | res0L  -- RES 0,L: 0xCB 0x85, R310
  | res0IndHl  -- RES 0,(HL): 0xCB 0x86, R310
  | res0A  -- RES 0,A: 0xCB 0x87, R310
  | res1B  -- RES 1,B: 0xCB 0x88, R310
  | res1C  -- RES 1,C: 0xCB 0x89, R310
  | res1D  -- RES 1,D: 0xCB 0x8A, R310
  | res1E  -- RES 1,E: 0xCB 0x8B, R310
  | res1H  -- RES 1,H: 0xCB 0x8C, R310
  | res1L  -- RES 1,L: 0xCB 0x8D, R310
  | res1IndHl  -- RES 1,(HL): 0xCB 0x8E, R310
  | res1A  -- RES 1,A: 0xCB 0x8F, R310
  | res2B  -- RES 2,B: 0xCB 0x90, R310
  | res2C  -- RES 2,C: 0xCB 0x91, R310
  | res2D  -- RES 2,D: 0xCB 0x92, R310
  | res2E  -- RES 2,E: 0xCB 0x93, R310
  | res2H  -- RES 2,H: 0xCB 0x94, R310
  | res2L  -- RES 2,L: 0xCB 0x95, R310
  | res2IndHl  -- RES 2,(HL): 0xCB 0x96, R310
  | res2A  -- RES 2,A: 0xCB 0x97, R310
  | res3B  -- RES 3,B: 0xCB 0x98, R310
  | res3C  -- RES 3,C: 0xCB 0x99, R310
  | res3D  -- RES 3,D: 0xCB 0x9A, R310
  | res3E  -- RES 3,E: 0xCB 0x9B, R310
  | res3H  -- RES 3,H: 0xCB 0x9C, R310
  | res3L  -- RES 3,L: 0xCB 0x9D, R310
  | res3IndHl  -- RES 3,(HL): 0xCB 0x9E, R310
  | res3A  -- RES 3,A: 0xCB 0x9F, R310
  | res4B  -- RES 4,B: 0xCB 0xA0, R310
  | res4C  -- RES 4,C: 0xCB 0xA1, R310
  | res4D  -- RES 4,D: 0xCB 0xA2, R310
  | res4E  -- RES 4,E: 0xCB 0xA3, R310
  | res4H  -- RES 4,H: 0xCB 0xA4, R310
  | res4L  -- RES 4,L: 0xCB 0xA5, R310
  | res4IndHl  -- RES 4,(HL): 0xCB 0xA6, R310
  | res4A  -- RES 4,A: 0xCB 0xA7, R310
  | res5B  -- RES 5,B: 0xCB 0xA8, R310
  | res5C  -- RES 5,C: 0xCB 0xA9, R310
  | res5D  -- RES 5,D: 0xCB 0xAA, R310
  | res5E  -- RES 5,E: 0xCB 0xAB, R310
  | res5H  -- RES 5,H: 0xCB 0xAC, R310
  | res5L  -- RES 5,L: 0xCB 0xAD, R310
  | res5IndHl  -- RES 5,(HL): 0xCB 0xAE, R310
  | res5A  -- RES 5,A: 0xCB 0xAF, R310
  | res6B  -- RES 6,B: 0xCB 0xB0, R310
  | res6C  -- RES 6,C: 0xCB 0xB1, R310
  | res6D  -- RES 6,D: 0xCB 0xB2, R310
  | res6E  -- RES 6,E: 0xCB 0xB3, R310
  | res6H  -- RES 6,H: 0xCB 0xB4, R310
  | res6L  -- RES 6,L: 0xCB 0xB5, R310
  | res6IndHl  -- RES 6,(HL): 0xCB 0xB6, R310
  | res6A  -- RES 6,A: 0xCB 0xB7, R310
  | res7B  -- RES 7,B: 0xCB 0xB8, R310
  | res7C  -- RES 7,C: 0xCB 0xB9, R310
  | res7D  -- RES 7,D: 0xCB 0xBA, R310
  | res7E  -- RES 7,E: 0xCB 0xBB, R310
  | res7H  -- RES 7,H: 0xCB 0xBC, R310
  | res7L  -- RES 7,L: 0xCB 0xBD, R310
  | res7IndHl  -- RES 7,(HL): 0xCB 0xBE, R310
  | res7A  -- RES 7,A: 0xCB 0xBF, R310
  | set0B  -- SET 0,B: 0xCB 0xC0, R311
  | set0C  -- SET 0,C: 0xCB 0xC1, R311
  | set0D  -- SET 0,D: 0xCB 0xC2, R311
  | set0E  -- SET 0,E: 0xCB 0xC3, R311
  | set0H  -- SET 0,H: 0xCB 0xC4, R311
  | set0L  -- SET 0,L: 0xCB 0xC5, R311
  | set0IndHl  -- SET 0,(HL): 0xCB 0xC6, R311
  | set0A  -- SET 0,A: 0xCB 0xC7, R311
  | set1B  -- SET 1,B: 0xCB 0xC8, R311
  | set1C  -- SET 1,C: 0xCB 0xC9, R311
  | set1D  -- SET 1,D: 0xCB 0xCA, R311
  | set1E  -- SET 1,E: 0xCB 0xCB, R311
  | set1H  -- SET 1,H: 0xCB 0xCC, R311
  | set1L  -- SET 1,L: 0xCB 0xCD, R311
  | set1IndHl  -- SET 1,(HL): 0xCB 0xCE, R311
  | set1A  -- SET 1,A: 0xCB 0xCF, R311
  | set2B  -- SET 2,B: 0xCB 0xD0, R311
  | set2C  -- SET 2,C: 0xCB 0xD1, R311
  | set2D  -- SET 2,D: 0xCB 0xD2, R311
  | set2E  -- SET 2,E: 0xCB 0xD3, R311
  | set2H  -- SET 2,H: 0xCB 0xD4, R311
  | set2L  -- SET 2,L: 0xCB 0xD5, R311
  | set2IndHl  -- SET 2,(HL): 0xCB 0xD6, R311
  | set2A  -- SET 2,A: 0xCB 0xD7, R311
  | set3B  -- SET 3,B: 0xCB 0xD8, R311
  | set3C  -- SET 3,C: 0xCB 0xD9, R311
  | set3D  -- SET 3,D: 0xCB 0xDA, R311
  | set3E  -- SET 3,E: 0xCB 0xDB, R311
  | set3H  -- SET 3,H: 0xCB 0xDC, R311
  | set3L  -- SET 3,L: 0xCB 0xDD, R311
  | set3IndHl  -- SET 3,(HL): 0xCB 0xDE, R311
  | set3A  -- SET 3,A: 0xCB 0xDF, R311
  | set4B  -- SET 4,B: 0xCB 0xE0, R311
  | set4C  -- SET 4,C: 0xCB 0xE1, R311
  | set4D  -- SET 4,D: 0xCB 0xE2, R311
  | set4E  -- SET 4,E: 0xCB 0xE3, R311
  | set4H  -- SET 4,H: 0xCB 0xE4, R311
  | set4L  -- SET 4,L: 0xCB 0xE5, R311
  | set4IndHl  -- SET 4,(HL): 0xCB 0xE6, R311
  | set4A  -- SET 4,A: 0xCB 0xE7, R311
  | set5B  -- SET 5,B: 0xCB 0xE8, R311
  | set5C  -- SET 5,C: 0xCB 0xE9, R311
  | set5D  -- SET 5,D: 0xCB 0xEA, R311
  | set5E  -- SET 5,E: 0xCB 0xEB, R311
  | set5H  -- SET 5,H: 0xCB 0xEC, R311
  | set5L  -- SET 5,L: 0xCB 0xED, R311
  | set5IndHl  -- SET 5,(HL): 0xCB 0xEE, R311
  | set5A  -- SET 5,A: 0xCB 0xEF, R311
  | set6B  -- SET 6,B: 0xCB 0xF0, R311
  | set6C  -- SET 6,C: 0xCB 0xF1, R311
  | set6D  -- SET 6,D: 0xCB 0xF2, R311
  | set6E  -- SET 6,E: 0xCB 0xF3, R311
  | set6H  -- SET 6,H: 0xCB 0xF4, R311
  | set6L  -- SET 6,L: 0xCB 0xF5, R311
  | set6IndHl  -- SET 6,(HL): 0xCB 0xF6, R311
  | set6A  -- SET 6,A: 0xCB 0xF7, R311
  | set7B  -- SET 7,B: 0xCB 0xF8, R311
  | set7C  -- SET 7,C: 0xCB 0xF9, R311
  | set7D  -- SET 7,D: 0xCB 0xFA, R311
  | set7E  -- SET 7,E: 0xCB 0xFB, R311
  | set7H  -- SET 7,H: 0xCB 0xFC, R311
  | set7L  -- SET 7,L: 0xCB 0xFD, R311
  | set7IndHl  -- SET 7,(HL): 0xCB 0xFE, R311
  | set7A  -- SET 7,A: 0xCB 0xFF, R311
  deriving DecidableEq, Repr

end Sys2Proof
end

