-- ==== Sys2Proof/WellFormed.lean ====
section
/-! DEFINITION. Which instructions stand alone. Every operand of the CORE fits its field by its type, so there is one
check: the escape byte 0xCB "is not an instruction of its own" (49_cb_prefixed.md R300), it needs the byte after it. -/

namespace Sys2Proof

/-- A whole instruction: anything but the bare escape byte (R300). -/
def Instr.wellFormed (i : Instr) : Bool :=
  decide (i ≠ .prefixCb)

end Sys2Proof
end

