-- ==== Sys2Proof/Decode.lean ====
section
/-! DEFINITION. The decoder, written from the field rules of 30_encoding.md (R82 to R92), and after it the encoder,
written row by row from spec/opcode_table.json; so that their agreement compares two readings of the encoding. -/

namespace Sys2Proof

/-! ## Byte order and fields -/

/-- `concat16(hi, lo)` (R9). -/
def concat16 (hi lo : Byte) : Word := hi ++ lo

/-- The high byte of a word, `v[15:8]`. -/
def hi8 (v : Word) : Byte := v.extractLsb' 8 8

/-- The low byte of a word, `v[7:0]`. -/
def lo8 (v : Word) : Byte := v.extractLsb' 0 8

/-- A 16-bit immediate from its two bytes in address order: the first is the low byte (R63, R83). -/
def imm16 (first second : Byte) : Word := concat16 second first

/-- The fields x, y and z of an opcode byte (R82), also the class, the index and the operand of a secondary byte (R89). -/
def fieldX (b : Byte) : Nat := b.toNat / 64

/-- See `fieldX`. -/
def fieldY (b : Byte) : Fin 8 := ⟨b.toNat / 8 % 8, Nat.mod_lt _ (by decide)⟩

/-- See `fieldX`. -/
def fieldZ (b : Byte) : Fin 8 := ⟨b.toNat % 8, Nat.mod_lt _ (by decide)⟩

/-! ## Operand codes -/

/-- The 8-bit register codes (R84). -/
def Operand8.ofCode : Fin 8 → Operand8
  | 0 => .reg .b
  | 1 => .reg .c
  | 2 => .reg .d
  | 3 => .reg .e
  | 4 => .reg .h
  | 5 => .reg .l
  | 6 => .hlInd
  | 7 => .reg .a

/-- The `rp` codes (R85): the field p is y / 2. -/
def Pair.ofY : Fin 8 → Pair
  | 0 | 1 => .bc
  | 2 | 3 => .de
  | 4 | 5 => .hl
  | 6 | 7 => .sp

/-- The `rp2` codes (R85). -/
def StackPair.ofY : Fin 8 → StackPair
  | 0 | 1 => .bc
  | 2 | 3 => .de
  | 4 | 5 => .hl
  | 6 | 7 => .af

/-- The condition codes (R86): y for JP, CALL and RET, y - 4 for JR. -/
def Cond.ofY : Fin 8 → Cond
  | 0 | 4 => .nz
  | 1 | 5 => .z
  | 2 | 6 => .nc
  | 3 | 7 => .c

/-- The ALU operation codes (R87). -/
def AluOp.ofCode : Fin 8 → AluOp
  | 0 => .add
  | 1 => .adc
  | 2 => .sub
  | 3 => .sbc
  | 4 => .and
  | 5 => .xor
  | 6 => .or
  | 7 => .cp

/-- The sub-operation codes of the rotate/shift class (R90). -/
def ShiftOp.ofCode : Fin 8 → ShiftOp
  | 0 => .rlc
  | 1 => .rrc
  | 2 => .rl
  | 3 => .rr
  | 4 => .sla
  | 5 => .sra
  | 6 => .swap
  | 7 => .srl

/-! ## The instruction of a form and its operand fields -/

/-- `LD r[y],r[z]`, quadrant x = 1 of R88; the code of `LD (HL),(HL)` is HALT. -/
def Instr.ld : Operand8 → Operand8 → Instr
  | .reg .b, .reg .b => .ldBB
  | .reg .b, .reg .c => .ldBC
  | .reg .b, .reg .d => .ldBD
  | .reg .b, .reg .e => .ldBE
  | .reg .b, .reg .h => .ldBH
  | .reg .b, .reg .l => .ldBL
  | .reg .b, .hlInd => .ldBIndHl
  | .reg .b, .reg .a => .ldBA
  | .reg .c, .reg .b => .ldCB
  | .reg .c, .reg .c => .ldCC
  | .reg .c, .reg .d => .ldCD
  | .reg .c, .reg .e => .ldCE
  | .reg .c, .reg .h => .ldCH
  | .reg .c, .reg .l => .ldCL
  | .reg .c, .hlInd => .ldCIndHl
  | .reg .c, .reg .a => .ldCA
  | .reg .d, .reg .b => .ldDB
  | .reg .d, .reg .c => .ldDC
  | .reg .d, .reg .d => .ldDD
  | .reg .d, .reg .e => .ldDE
  | .reg .d, .reg .h => .ldDH
  | .reg .d, .reg .l => .ldDL
  | .reg .d, .hlInd => .ldDIndHl
  | .reg .d, .reg .a => .ldDA
  | .reg .e, .reg .b => .ldEB
  | .reg .e, .reg .c => .ldEC
  | .reg .e, .reg .d => .ldED
  | .reg .e, .reg .e => .ldEE
  | .reg .e, .reg .h => .ldEH
  | .reg .e, .reg .l => .ldEL
  | .reg .e, .hlInd => .ldEIndHl
  | .reg .e, .reg .a => .ldEA
  | .reg .h, .reg .b => .ldHB
  | .reg .h, .reg .c => .ldHC
  | .reg .h, .reg .d => .ldHD
  | .reg .h, .reg .e => .ldHE
  | .reg .h, .reg .h => .ldHH
  | .reg .h, .reg .l => .ldHL
  | .reg .h, .hlInd => .ldHIndHl
  | .reg .h, .reg .a => .ldHA
  | .reg .l, .reg .b => .ldLB
  | .reg .l, .reg .c => .ldLC
  | .reg .l, .reg .d => .ldLD
  | .reg .l, .reg .e => .ldLE
  | .reg .l, .reg .h => .ldLH
  | .reg .l, .reg .l => .ldLL
  | .reg .l, .hlInd => .ldLIndHl
  | .reg .l, .reg .a => .ldLA
  | .hlInd, .reg .b => .ldIndHlB
  | .hlInd, .reg .c => .ldIndHlC
  | .hlInd, .reg .d => .ldIndHlD
  | .hlInd, .reg .e => .ldIndHlE
  | .hlInd, .reg .h => .ldIndHlH
  | .hlInd, .reg .l => .ldIndHlL
  | .hlInd, .hlInd => .halt
  | .hlInd, .reg .a => .ldIndHlA
  | .reg .a, .reg .b => .ldAB
  | .reg .a, .reg .c => .ldAC
  | .reg .a, .reg .d => .ldAD
  | .reg .a, .reg .e => .ldAE
  | .reg .a, .reg .h => .ldAH
  | .reg .a, .reg .l => .ldAL
  | .reg .a, .hlInd => .ldAIndHl
  | .reg .a, .reg .a => .ldAA

/-- `LD r[y],d8` (R88, x = 0, z = 6). -/
def Instr.ldImm : Operand8 → Byte → Instr
  | .reg .b, v => .ldBD8 v
  | .reg .c, v => .ldCD8 v
  | .reg .d, v => .ldDD8 v
  | .reg .e, v => .ldED8 v
  | .reg .h, v => .ldHD8 v
  | .reg .l, v => .ldLD8 v
  | .hlInd, v => .ldIndHlD8 v
  | .reg .a, v => .ldAD8 v

/-- `INC r[y]` (R88, x = 0, z = 4). -/
def Instr.inc : Operand8 → Instr
  | .reg .b => .incB
  | .reg .c => .incC
  | .reg .d => .incD
  | .reg .e => .incE
  | .reg .h => .incH
  | .reg .l => .incL
  | .hlInd => .incIndHl
  | .reg .a => .incA

/-- `DEC r[y]` (R88, x = 0, z = 5). -/
def Instr.dec : Operand8 → Instr
  | .reg .b => .decB
  | .reg .c => .decC
  | .reg .d => .decD
  | .reg .e => .decE
  | .reg .h => .decH
  | .reg .l => .decL
  | .hlInd => .decIndHl
  | .reg .a => .decA

/-- `alu[y] A,r[z]`, quadrant x = 2 of R88. -/
def Instr.alu : AluOp → Operand8 → Instr
  | .add, .reg .b => .addAB
  | .add, .reg .c => .addAC
  | .add, .reg .d => .addAD
  | .add, .reg .e => .addAE
  | .add, .reg .h => .addAH
  | .add, .reg .l => .addAL
  | .add, .hlInd => .addAIndHl
  | .add, .reg .a => .addAA
  | .adc, .reg .b => .adcAB
  | .adc, .reg .c => .adcAC
  | .adc, .reg .d => .adcAD
  | .adc, .reg .e => .adcAE
  | .adc, .reg .h => .adcAH
  | .adc, .reg .l => .adcAL
  | .adc, .hlInd => .adcAIndHl
  | .adc, .reg .a => .adcAA
  | .sub, .reg .b => .subB
  | .sub, .reg .c => .subC
  | .sub, .reg .d => .subD
  | .sub, .reg .e => .subE
  | .sub, .reg .h => .subH
  | .sub, .reg .l => .subL
  | .sub, .hlInd => .subIndHl
  | .sub, .reg .a => .subA
  | .sbc, .reg .b => .sbcAB
  | .sbc, .reg .c => .sbcAC
  | .sbc, .reg .d => .sbcAD
  | .sbc, .reg .e => .sbcAE
  | .sbc, .reg .h => .sbcAH
  | .sbc, .reg .l => .sbcAL
  | .sbc, .hlInd => .sbcAIndHl
  | .sbc, .reg .a => .sbcAA
  | .and, .reg .b => .andB
  | .and, .reg .c => .andC
  | .and, .reg .d => .andD
  | .and, .reg .e => .andE
  | .and, .reg .h => .andH
  | .and, .reg .l => .andL
  | .and, .hlInd => .andIndHl
  | .and, .reg .a => .andA
  | .xor, .reg .b => .xorB
  | .xor, .reg .c => .xorC
  | .xor, .reg .d => .xorD
  | .xor, .reg .e => .xorE
  | .xor, .reg .h => .xorH
  | .xor, .reg .l => .xorL
  | .xor, .hlInd => .xorIndHl
  | .xor, .reg .a => .xorA
  | .or, .reg .b => .orB
  | .or, .reg .c => .orC
  | .or, .reg .d => .orD
  | .or, .reg .e => .orE
  | .or, .reg .h => .orH
  | .or, .reg .l => .orL
  | .or, .hlInd => .orIndHl
  | .or, .reg .a => .orA
  | .cp, .reg .b => .cpB
  | .cp, .reg .c => .cpC
  | .cp, .reg .d => .cpD
  | .cp, .reg .e => .cpE
  | .cp, .reg .h => .cpH
  | .cp, .reg .l => .cpL
  | .cp, .hlInd => .cpIndHl
  | .cp, .reg .a => .cpA

/-- `alu[y] A,d8` (R88, x = 3, z = 6). -/
def Instr.aluImm : AluOp → Byte → Instr
  | .add, v => .addAD8 v
  | .adc, v => .adcAD8 v
  | .sub, v => .subD8 v
  | .sbc, v => .sbcAD8 v
  | .and, v => .andD8 v
  | .xor, v => .xorD8 v
  | .or, v => .orD8 v
  | .cp, v => .cpD8 v

/-- `LD rp,d16` (R88, x = 0, z = 1, q = 0). -/
def Instr.ldPair : Pair → Word → Instr
  | .bc, v => .ldBcD16 v
  | .de, v => .ldDeD16 v
  | .hl, v => .ldHlD16 v
  | .sp, v => .ldSpD16 v

/-- `ADD HL,rp` (R88, x = 0, z = 1, q = 1). -/
def Instr.addHl : Pair → Instr
  | .bc => .addHlBc
  | .de => .addHlDe
  | .hl => .addHlHl
  | .sp => .addHlSp

/-- `INC rp` (R88, x = 0, z = 3, q = 0). -/
def Instr.incPair : Pair → Instr
  | .bc => .incBc
  | .de => .incDe
  | .hl => .incHl
  | .sp => .incSp

/-- `DEC rp` (R88, x = 0, z = 3, q = 1). -/
def Instr.decPair : Pair → Instr
  | .bc => .decBc
  | .de => .decDe
  | .hl => .decHl
  | .sp => .decSp

/-- `PUSH rp2` (R88, x = 3, z = 5, q = 0). -/
def Instr.push : StackPair → Instr
  | .bc => .pushBc
  | .de => .pushDe
  | .hl => .pushHl
  | .af => .pushAf

/-- `POP rp2` (R88, x = 3, z = 1, q = 0). -/
def Instr.pop : StackPair → Instr
  | .bc => .popBc
  | .de => .popDe
  | .hl => .popHl
  | .af => .popAf

/-- `JR cc,e8` (R88, x = 0, z = 0, y = 4 to 7). -/
def Instr.jrCond : Cond → Byte → Instr
  | .nz, v => .jrNzE8 v
  | .z, v => .jrZE8 v
  | .nc, v => .jrNcE8 v
  | .c, v => .jrCE8 v

/-- `JP cc,a16` (R88, x = 3, z = 2, y = 0 to 3). -/
def Instr.jpCond : Cond → Word → Instr
  | .nz, v => .jpNzA16 v
  | .z, v => .jpZA16 v
  | .nc, v => .jpNcA16 v
  | .c, v => .jpCA16 v

/-- `CALL cc,a16` (R88, x = 3, z = 4, y = 0 to 3). -/
def Instr.callCond : Cond → Word → Instr
  | .nz, v => .callNzA16 v
  | .z, v => .callZA16 v
  | .nc, v => .callNcA16 v
  | .c, v => .callCA16 v

/-- `RET cc` (R88, x = 3, z = 0, y = 0 to 3). -/
def Instr.retCond : Cond → Instr
  | .nz => .retNz
  | .z => .retZ
  | .nc => .retNc
  | .c => .retC

/-- `RST y*8` (R88, x = 3, z = 7). -/
def Instr.rst : Fin 8 → Instr
  | 0 => .rst00
  | 1 => .rst08
  | 2 => .rst10
  | 3 => .rst18
  | 4 => .rst20
  | 5 => .rst28
  | 6 => .rst30
  | 7 => .rst38

/-- The rotate/shift class of the secondary table (R90, R91). -/
def Instr.shift : ShiftOp → Operand8 → Instr
  | .rlc, .reg .b => .rlcB
  | .rlc, .reg .c => .rlcC
  | .rlc, .reg .d => .rlcD
  | .rlc, .reg .e => .rlcE
  | .rlc, .reg .h => .rlcH
  | .rlc, .reg .l => .rlcL
  | .rlc, .hlInd => .rlcIndHl
  | .rlc, .reg .a => .rlcA
  | .rrc, .reg .b => .rrcB
  | .rrc, .reg .c => .rrcC
  | .rrc, .reg .d => .rrcD
  | .rrc, .reg .e => .rrcE
  | .rrc, .reg .h => .rrcH
  | .rrc, .reg .l => .rrcL
  | .rrc, .hlInd => .rrcIndHl
  | .rrc, .reg .a => .rrcA
  | .rl, .reg .b => .rlB
  | .rl, .reg .c => .rlC
  | .rl, .reg .d => .rlD
  | .rl, .reg .e => .rlE
  | .rl, .reg .h => .rlH
  | .rl, .reg .l => .rlL
  | .rl, .hlInd => .rlIndHl
  | .rl, .reg .a => .rlA
  | .rr, .reg .b => .rrB
  | .rr, .reg .c => .rrC
  | .rr, .reg .d => .rrD
  | .rr, .reg .e => .rrE
  | .rr, .reg .h => .rrH
  | .rr, .reg .l => .rrL
  | .rr, .hlInd => .rrIndHl
  | .rr, .reg .a => .rrA
  | .sla, .reg .b => .slaB
  | .sla, .reg .c => .slaC
  | .sla, .reg .d => .slaD
  | .sla, .reg .e => .slaE
  | .sla, .reg .h => .slaH
  | .sla, .reg .l => .slaL
  | .sla, .hlInd => .slaIndHl
  | .sla, .reg .a => .slaA
  | .sra, .reg .b => .sraB
  | .sra, .reg .c => .sraC
  | .sra, .reg .d => .sraD
  | .sra, .reg .e => .sraE
  | .sra, .reg .h => .sraH
  | .sra, .reg .l => .sraL
  | .sra, .hlInd => .sraIndHl
  | .sra, .reg .a => .sraA
  | .swap, .reg .b => .swapB
  | .swap, .reg .c => .swapC
  | .swap, .reg .d => .swapD
  | .swap, .reg .e => .swapE
  | .swap, .reg .h => .swapH
  | .swap, .reg .l => .swapL
  | .swap, .hlInd => .swapIndHl
  | .swap, .reg .a => .swapA
  | .srl, .reg .b => .srlB
  | .srl, .reg .c => .srlC
  | .srl, .reg .d => .srlD
  | .srl, .reg .e => .srlE
  | .srl, .reg .h => .srlH
  | .srl, .reg .l => .srlL
  | .srl, .hlInd => .srlIndHl
  | .srl, .reg .a => .srlA

/-- The BIT class of the secondary table (R90, R91). -/
def Instr.bit : Fin 8 → Operand8 → Instr
  | 0, .reg .b => .bit0B
  | 0, .reg .c => .bit0C
  | 0, .reg .d => .bit0D
  | 0, .reg .e => .bit0E
  | 0, .reg .h => .bit0H
  | 0, .reg .l => .bit0L
  | 0, .hlInd => .bit0IndHl
  | 0, .reg .a => .bit0A
  | 1, .reg .b => .bit1B
  | 1, .reg .c => .bit1C
  | 1, .reg .d => .bit1D
  | 1, .reg .e => .bit1E
  | 1, .reg .h => .bit1H
  | 1, .reg .l => .bit1L
  | 1, .hlInd => .bit1IndHl
  | 1, .reg .a => .bit1A
  | 2, .reg .b => .bit2B
  | 2, .reg .c => .bit2C
  | 2, .reg .d => .bit2D
  | 2, .reg .e => .bit2E
  | 2, .reg .h => .bit2H
  | 2, .reg .l => .bit2L
  | 2, .hlInd => .bit2IndHl
  | 2, .reg .a => .bit2A
  | 3, .reg .b => .bit3B
  | 3, .reg .c => .bit3C
  | 3, .reg .d => .bit3D
  | 3, .reg .e => .bit3E
  | 3, .reg .h => .bit3H
  | 3, .reg .l => .bit3L
  | 3, .hlInd => .bit3IndHl
  | 3, .reg .a => .bit3A
  | 4, .reg .b => .bit4B
  | 4, .reg .c => .bit4C
  | 4, .reg .d => .bit4D
  | 4, .reg .e => .bit4E
  | 4, .reg .h => .bit4H
  | 4, .reg .l => .bit4L
  | 4, .hlInd => .bit4IndHl
  | 4, .reg .a => .bit4A
  | 5, .reg .b => .bit5B
  | 5, .reg .c => .bit5C
  | 5, .reg .d => .bit5D
  | 5, .reg .e => .bit5E
  | 5, .reg .h => .bit5H
  | 5, .reg .l => .bit5L
  | 5, .hlInd => .bit5IndHl
  | 5, .reg .a => .bit5A
  | 6, .reg .b => .bit6B
  | 6, .reg .c => .bit6C
  | 6, .reg .d => .bit6D
  | 6, .reg .e => .bit6E
  | 6, .reg .h => .bit6H
  | 6, .reg .l => .bit6L
  | 6, .hlInd => .bit6IndHl
  | 6, .reg .a => .bit6A
  | 7, .reg .b => .bit7B
  | 7, .reg .c => .bit7C
  | 7, .reg .d => .bit7D
  | 7, .reg .e => .bit7E
  | 7, .reg .h => .bit7H
  | 7, .reg .l => .bit7L
  | 7, .hlInd => .bit7IndHl
  | 7, .reg .a => .bit7A

/-- The RES class of the secondary table (R90, R91). -/
def Instr.res : Fin 8 → Operand8 → Instr
  | 0, .reg .b => .res0B
  | 0, .reg .c => .res0C
  | 0, .reg .d => .res0D
  | 0, .reg .e => .res0E
  | 0, .reg .h => .res0H
  | 0, .reg .l => .res0L
  | 0, .hlInd => .res0IndHl
  | 0, .reg .a => .res0A
  | 1, .reg .b => .res1B
  | 1, .reg .c => .res1C
  | 1, .reg .d => .res1D
  | 1, .reg .e => .res1E
  | 1, .reg .h => .res1H
  | 1, .reg .l => .res1L
  | 1, .hlInd => .res1IndHl
  | 1, .reg .a => .res1A
  | 2, .reg .b => .res2B
  | 2, .reg .c => .res2C
  | 2, .reg .d => .res2D
  | 2, .reg .e => .res2E
  | 2, .reg .h => .res2H
  | 2, .reg .l => .res2L
  | 2, .hlInd => .res2IndHl
  | 2, .reg .a => .res2A
  | 3, .reg .b => .res3B
  | 3, .reg .c => .res3C
  | 3, .reg .d => .res3D
  | 3, .reg .e => .res3E
  | 3, .reg .h => .res3H
  | 3, .reg .l => .res3L
  | 3, .hlInd => .res3IndHl
  | 3, .reg .a => .res3A
  | 4, .reg .b => .res4B
  | 4, .reg .c => .res4C
  | 4, .reg .d => .res4D
  | 4, .reg .e => .res4E
  | 4, .reg .h => .res4H
  | 4, .reg .l => .res4L
  | 4, .hlInd => .res4IndHl
  | 4, .reg .a => .res4A
  | 5, .reg .b => .res5B
  | 5, .reg .c => .res5C
  | 5, .reg .d => .res5D
  | 5, .reg .e => .res5E
  | 5, .reg .h => .res5H
  | 5, .reg .l => .res5L
  | 5, .hlInd => .res5IndHl
  | 5, .reg .a => .res5A
  | 6, .reg .b => .res6B
  | 6, .reg .c => .res6C
  | 6, .reg .d => .res6D
  | 6, .reg .e => .res6E
  | 6, .reg .h => .res6H
  | 6, .reg .l => .res6L
  | 6, .hlInd => .res6IndHl
  | 6, .reg .a => .res6A
  | 7, .reg .b => .res7B
  | 7, .reg .c => .res7C
  | 7, .reg .d => .res7D
  | 7, .reg .e => .res7E
  | 7, .reg .h => .res7H
  | 7, .reg .l => .res7L
  | 7, .hlInd => .res7IndHl
  | 7, .reg .a => .res7A

/-- The SET class of the secondary table (R90, R91). -/
def Instr.set : Fin 8 → Operand8 → Instr
  | 0, .reg .b => .set0B
  | 0, .reg .c => .set0C
  | 0, .reg .d => .set0D
  | 0, .reg .e => .set0E
  | 0, .reg .h => .set0H
  | 0, .reg .l => .set0L
  | 0, .hlInd => .set0IndHl
  | 0, .reg .a => .set0A
  | 1, .reg .b => .set1B
  | 1, .reg .c => .set1C
  | 1, .reg .d => .set1D
  | 1, .reg .e => .set1E
  | 1, .reg .h => .set1H
  | 1, .reg .l => .set1L
  | 1, .hlInd => .set1IndHl
  | 1, .reg .a => .set1A
  | 2, .reg .b => .set2B
  | 2, .reg .c => .set2C
  | 2, .reg .d => .set2D
  | 2, .reg .e => .set2E
  | 2, .reg .h => .set2H
  | 2, .reg .l => .set2L
  | 2, .hlInd => .set2IndHl
  | 2, .reg .a => .set2A
  | 3, .reg .b => .set3B
  | 3, .reg .c => .set3C
  | 3, .reg .d => .set3D
  | 3, .reg .e => .set3E
  | 3, .reg .h => .set3H
  | 3, .reg .l => .set3L
  | 3, .hlInd => .set3IndHl
  | 3, .reg .a => .set3A
  | 4, .reg .b => .set4B
  | 4, .reg .c => .set4C
  | 4, .reg .d => .set4D
  | 4, .reg .e => .set4E
  | 4, .reg .h => .set4H
  | 4, .reg .l => .set4L
  | 4, .hlInd => .set4IndHl
  | 4, .reg .a => .set4A
  | 5, .reg .b => .set5B
  | 5, .reg .c => .set5C
  | 5, .reg .d => .set5D
  | 5, .reg .e => .set5E
  | 5, .reg .h => .set5H
  | 5, .reg .l => .set5L
  | 5, .hlInd => .set5IndHl
  | 5, .reg .a => .set5A
  | 6, .reg .b => .set6B
  | 6, .reg .c => .set6C
  | 6, .reg .d => .set6D
  | 6, .reg .e => .set6E
  | 6, .reg .h => .set6H
  | 6, .reg .l => .set6L
  | 6, .hlInd => .set6IndHl
  | 6, .reg .a => .set6A
  | 7, .reg .b => .set7B
  | 7, .reg .c => .set7C
  | 7, .reg .d => .set7D
  | 7, .reg .e => .set7E
  | 7, .reg .h => .set7H
  | 7, .reg .l => .set7L
  | 7, .hlInd => .set7IndHl
  | 7, .reg .a => .set7A

/-! ## The primary table -/

/-- What the first byte says (R97): the verdict Unmapped, the escape, or an operation with the operand bytes its format
lists (R81). -/
inductive Primary where
  | unmapped
  | escape
  /-- Format `op`: no operand byte. -/
  | op (i : Instr)
  /-- Format `op_pad`: STOP, with a pad byte that is fetched and ignored when `STOP_LENGTH` is 2 (R292). -/
  | opPad (i : Instr)
  /-- Formats `op_d8`, `op_a8`, `op_e8`. -/
  | imm8 (mk : Byte → Instr)
  /-- Formats `op_d16`, `op_a16`. -/
  | imm16 (mk : Word → Instr)

/-- Quadrant x = 0 of R88. -/
def decodeQuadrant0 (y z : Fin 8) : Primary :=
  match z with
  | 0 =>
    match y with
    | 0 => .op .nop
    | 1 => .imm16 .ldIndA16Sp
    | 2 => .opPad .stop
    | 3 => .imm8 .jrE8
    | 4 | 5 | 6 | 7 => .imm8 (Instr.jrCond (.ofY y))
  | 1 => if y.val % 2 = 0 then .imm16 (Instr.ldPair (.ofY y)) else .op (Instr.addHl (.ofY y))
  | 2 =>
    match y with
    | 0 => .op .ldIndBcA
    | 1 => .op .ldAIndBc
    | 2 => .op .ldIndDeA
    | 3 => .op .ldAIndDe
    | 4 => .op .ldIndHlIncA
    | 5 => .op .ldAIndHlInc
    | 6 => .op .ldIndHlDecA
    | 7 => .op .ldAIndHlDec
  | 3 => if y.val % 2 = 0 then .op (Instr.incPair (.ofY y)) else .op (Instr.decPair (.ofY y))
  | 4 => .op (Instr.inc (.ofCode y))
  | 5 => .op (Instr.dec (.ofCode y))
  | 6 => .imm8 (Instr.ldImm (.ofCode y))
  | 7 =>
    match y with
    | 0 => .op .rlca
    | 1 => .op .rrca
    | 2 => .op .rla
    | 3 => .op .rra
    | 4 => .op .daa
    | 5 => .op .cpl
    | 6 => .op .scf
    | 7 => .op .ccf

/-- Quadrant x = 3 of R88, with the illegal bytes of R92. -/
def decodeQuadrant3 (y z : Fin 8) : Primary :=
  match z with
  | 0 =>
    match y with
    | 0 | 1 | 2 | 3 => .op (Instr.retCond (.ofY y))
    | 4 => .imm8 .ldhIndA8A
    | 5 => .imm8 .addSpE8
    | 6 => .imm8 .ldhAIndA8
    | 7 => .imm8 .ldHlSpE8
  | 1 =>
    match y with
    | 0 | 2 | 4 | 6 => .op (Instr.pop (.ofY y))
    | 1 => .op .ret
    | 3 => .op .reti
    | 5 => .op .jpHl
    | 7 => .op .ldSpHl
  | 2 =>
    match y with
    | 0 | 1 | 2 | 3 => .imm16 (Instr.jpCond (.ofY y))
    | 4 => .op .ldIndCA
    | 5 => .imm16 .ldIndA16A
    | 6 => .op .ldAIndC
    | 7 => .imm16 .ldAIndA16
  | 3 =>
    match y with
    | 0 => .imm16 .jpA16
    | 1 => .escape
    | 6 => .op .di
    | 7 => .op .ei
    | 2 | 3 | 4 | 5 => .unmapped
  | 4 =>
    match y with
    | 0 | 1 | 2 | 3 => .imm16 (Instr.callCond (.ofY y))
    | 4 | 5 | 6 | 7 => .unmapped
  | 5 =>
    match y with
    | 0 | 2 | 4 | 6 => .op (Instr.push (.ofY y))
    | 1 => .imm16 .callA16
    | 3 | 5 | 7 => .unmapped
  | 6 => .imm8 (Instr.aluImm (.ofCode y))
  | 7 => .op (Instr.rst y)

/-- `decode_primary(b)` (R97), by the quadrants of R88. -/
def decodePrimary (b : Byte) : Primary :=
  match fieldX b with
  | 0 => decodeQuadrant0 (fieldY b) (fieldZ b)
  | 1 => .op (Instr.ld (.ofCode (fieldY b)) (.ofCode (fieldZ b)))
  | 2 => .op (Instr.alu (.ofCode (fieldY b)) (.ofCode (fieldZ b)))
  | _ => decodeQuadrant3 (fieldY b) (fieldZ b)

/-- The eleven illegal primary bytes, as R92 lists them. -/
def illegalBytes : List Byte := [0xD3, 0xDB, 0xDD, 0xE3, 0xE4, 0xEB, 0xEC, 0xED, 0xF4, 0xFC, 0xFD]

/-! ## The secondary table -/

/-- `decode_secondary(s)` (R97): class, index and operand by R89 to R91. Every byte decodes. -/
def decodeSecondary (s : Byte) : Instr :=
  match fieldX s with
  | 0 => Instr.shift (.ofCode (fieldY s)) (.ofCode (fieldZ s))
  | 1 => Instr.bit (fieldY s) (.ofCode (fieldZ s))
  | 2 => Instr.res (fieldY s) (.ofCode (fieldZ s))
  | _ => Instr.set (fieldY s) (.ofCode (fieldZ s))

/-! ## Lengths -/

/-- `STOP_LENGTH` as a number. -/
def StopLength.toNat : StopLength → Nat
  | .one => 1
  | .two => 2

/-- The opcode bytes of three-byte instructions (R94). -/
def threeByteOpcodes : List Byte :=
  [0x01, 0x11, 0x21, 0x31, 0x08, 0xC2, 0xCA, 0xD2, 0xDA, 0xC3, 0xC4, 0xCC, 0xD4, 0xDC, 0xCD, 0xEA, 0xFA]

/-- The opcode bytes of two-byte instructions (R94). -/
def twoByteOpcodes : List Byte :=
  [0x06, 0x0E, 0x16, 0x1E, 0x26, 0x2E, 0x36, 0x3E, 0x18, 0x20, 0x28, 0x30, 0x38, 0xC6, 0xCE, 0xD6, 0xDE, 0xE6, 0xEE,
   0xF6, 0xFE, 0xE0, 0xF0, 0xE8, 0xF8, 0xCB]

/-- The length of an instruction by its first byte alone (R80, R94). -/
def opcodeLength (sl : StopLength) (b : Byte) : Nat :=
  if threeByteOpcodes.contains b then 3
  else if twoByteOpcodes.contains b then 2
  else if b = 0x10 then sl.toNat
  else 1

/-! ## Decoding a list of bytes -/

/-- Why a list of bytes is no instruction. -/
inductive DecodeReject where
  /-- The first byte is one of the eleven of R92. -/
  | unmapped (b : Byte)
  /-- The list ends inside an instruction; a fetch from memory never meets this, since addresses wrap (R64). -/
  | truncated
  deriving DecidableEq, Repr

/-- What a list of bytes decodes to: the instruction at its head and the bytes after it, or the named rejection. -/
inductive DecodeResult where
  | ok (i : Instr) (rest : List Byte)
  | error (r : DecodeReject)
  deriving DecidableEq, Repr

/-- Decode the head of a list of bytes. -/
def decode (sl : StopLength) : List Byte → DecodeResult
  | [] => .error .truncated
  | b :: rest =>
    match decodePrimary b with
    | .unmapped => .error (.unmapped b)
    | .op i => .ok i rest
    | .escape =>
      match rest with
      | s :: rest => .ok (decodeSecondary s) rest
      | [] => .error .truncated
    | .opPad i =>
      match sl, rest with
      | .one, rest => .ok i rest
      | .two, _ :: rest => .ok i rest
      | .two, [] => .error .truncated
    | .imm8 mk =>
      match rest with
      | v :: rest => .ok (mk v) rest
      | [] => .error .truncated
    | .imm16 mk =>
      match rest with
      | first :: second :: rest => .ok (mk (imm16 first second)) rest
      | _ => .error .truncated

/-! ## Words as spec/opcode_table.json numbers them -/

/-- The three bytes, in address order, of an instruction whose bits are `w`, numbered as the table numbers them (log 7):
a row's byte is bits 7..0 and later bytes count on from it, but the table writes a secondary row as the 16-bit number
0xCBss, with the escape byte, which is first in memory, in bits 15..8. Bits from `nbits` up are 0. -/
def tableBytes (nbits w : Nat) : List Byte :=
  let w := w % 2 ^ nbits
  if nbits = 16 ∧ w / 256 = 0xCB then [0xCB, BitVec.ofNat 8 w, 0x00]
  else [BitVec.ofNat 8 w, BitVec.ofNat 8 (w / 256), BitVec.ofNat 8 (w / 65536)]

/-- The instruction the decoder reads from a word of spec/opcode_table.json. The word of the row PREFIX_CB is the escape
byte alone (log 6); every other word goes through `decode`. -/
def decodeTableWord (nbits w : Nat) : Option Instr :=
  if w % 2 ^ nbits = 0xCB then some .prefixCb
  else
    match decode .two (tableBytes nbits w) with
    | .ok i _ => some i
    | .error _ => none

/-! ## The encoder -/

/-- The bytes of an instruction in address order, row by row from spec/opcode_table.json: 16-bit immediates low byte
first (R83), STOP's pad as 0x00 (any value is accepted there, R93; log 10). -/
def encode (sl : StopLength) : Instr → List Byte
  | .nop => [0x00]
  | .ldBcD16 v => [0x01, lo8 v, hi8 v]
  | .ldIndBcA => [0x02]
  | .incBc => [0x03]
  | .incB => [0x04]
  | .decB => [0x05]
  | .ldBD8 v => [0x06, v]
  | .rlca => [0x07]
  | .ldIndA16Sp v => [0x08, lo8 v, hi8 v]
  | .addHlBc => [0x09]
  | .ldAIndBc => [0x0A]
  | .decBc => [0x0B]
  | .incC => [0x0C]
  | .decC => [0x0D]
  | .ldCD8 v => [0x0E, v]
  | .rrca => [0x0F]
  | .stop => match sl with | .one => [0x10] | .two => [0x10, 0x00]
  | .ldDeD16 v => [0x11, lo8 v, hi8 v]
  | .ldIndDeA => [0x12]
  | .incDe => [0x13]
  | .incD => [0x14]
  | .decD => [0x15]
  | .ldDD8 v => [0x16, v]
  | .rla => [0x17]
  | .jrE8 v => [0x18, v]
  | .addHlDe => [0x19]
  | .ldAIndDe => [0x1A]
  | .decDe => [0x1B]
  | .incE => [0x1C]
  | .decE => [0x1D]
  | .ldED8 v => [0x1E, v]
  | .rra => [0x1F]
  | .jrNzE8 v => [0x20, v]
  | .ldHlD16 v => [0x21, lo8 v, hi8 v]
  | .ldIndHlIncA => [0x22]
  | .incHl => [0x23]
  | .incH => [0x24]
  | .decH => [0x25]
  | .ldHD8 v => [0x26, v]
  | .daa => [0x27]
  | .jrZE8 v => [0x28, v]
  | .addHlHl => [0x29]
  | .ldAIndHlInc => [0x2A]
  | .decHl => [0x2B]
  | .incL => [0x2C]
  | .decL => [0x2D]
  | .ldLD8 v => [0x2E, v]
  | .cpl => [0x2F]
  | .jrNcE8 v => [0x30, v]
  | .ldSpD16 v => [0x31, lo8 v, hi8 v]
  | .ldIndHlDecA => [0x32]
  | .incSp => [0x33]
  | .incIndHl => [0x34]
  | .decIndHl => [0x35]
  | .ldIndHlD8 v => [0x36, v]
  | .scf => [0x37]
  | .jrCE8 v => [0x38, v]
  | .addHlSp => [0x39]
  | .ldAIndHlDec => [0x3A]
  | .decSp => [0x3B]
  | .incA => [0x3C]
  | .decA => [0x3D]
  | .ldAD8 v => [0x3E, v]
  | .ccf => [0x3F]
  | .ldBB => [0x40]
  | .ldBC => [0x41]
  | .ldBD => [0x42]
  | .ldBE => [0x43]
  | .ldBH => [0x44]
  | .ldBL => [0x45]
  | .ldBIndHl => [0x46]
  | .ldBA => [0x47]
  | .ldCB => [0x48]
  | .ldCC => [0x49]
  | .ldCD => [0x4A]
  | .ldCE => [0x4B]
  | .ldCH => [0x4C]
  | .ldCL => [0x4D]
  | .ldCIndHl => [0x4E]
  | .ldCA => [0x4F]
  | .ldDB => [0x50]
  | .ldDC => [0x51]
  | .ldDD => [0x52]
  | .ldDE => [0x53]
  | .ldDH => [0x54]
  | .ldDL => [0x55]
  | .ldDIndHl => [0x56]
  | .ldDA => [0x57]
  | .ldEB => [0x58]
  | .ldEC => [0x59]
  | .ldED => [0x5A]
  | .ldEE => [0x5B]
  | .ldEH => [0x5C]
  | .ldEL => [0x5D]
  | .ldEIndHl => [0x5E]
  | .ldEA => [0x5F]
  | .ldHB => [0x60]
  | .ldHC => [0x61]
  | .ldHD => [0x62]
  | .ldHE => [0x63]
  | .ldHH => [0x64]
  | .ldHL => [0x65]
  | .ldHIndHl => [0x66]
  | .ldHA => [0x67]
  | .ldLB => [0x68]
  | .ldLC => [0x69]
  | .ldLD => [0x6A]
  | .ldLE => [0x6B]
  | .ldLH => [0x6C]
  | .ldLL => [0x6D]
  | .ldLIndHl => [0x6E]
  | .ldLA => [0x6F]
  | .ldIndHlB => [0x70]
  | .ldIndHlC => [0x71]
  | .ldIndHlD => [0x72]
  | .ldIndHlE => [0x73]
  | .ldIndHlH => [0x74]
  | .ldIndHlL => [0x75]
  | .halt => [0x76]
  | .ldIndHlA => [0x77]
  | .ldAB => [0x78]
  | .ldAC => [0x79]
  | .ldAD => [0x7A]
  | .ldAE => [0x7B]
  | .ldAH => [0x7C]
  | .ldAL => [0x7D]
  | .ldAIndHl => [0x7E]
  | .ldAA => [0x7F]
  | .addAB => [0x80]
  | .addAC => [0x81]
  | .addAD => [0x82]
  | .addAE => [0x83]
  | .addAH => [0x84]
  | .addAL => [0x85]
  | .addAIndHl => [0x86]
  | .addAA => [0x87]
  | .adcAB => [0x88]
  | .adcAC => [0x89]
  | .adcAD => [0x8A]
  | .adcAE => [0x8B]
  | .adcAH => [0x8C]
  | .adcAL => [0x8D]
  | .adcAIndHl => [0x8E]
  | .adcAA => [0x8F]
  | .subB => [0x90]
  | .subC => [0x91]
  | .subD => [0x92]
  | .subE => [0x93]
  | .subH => [0x94]
  | .subL => [0x95]
  | .subIndHl => [0x96]
  | .subA => [0x97]
  | .sbcAB => [0x98]
  | .sbcAC => [0x99]
  | .sbcAD => [0x9A]
  | .sbcAE => [0x9B]
  | .sbcAH => [0x9C]
  | .sbcAL => [0x9D]
  | .sbcAIndHl => [0x9E]
  | .sbcAA => [0x9F]
  | .andB => [0xA0]
  | .andC => [0xA1]
  | .andD => [0xA2]
  | .andE => [0xA3]
  | .andH => [0xA4]
  | .andL => [0xA5]
  | .andIndHl => [0xA6]
  | .andA => [0xA7]
  | .xorB => [0xA8]
  | .xorC => [0xA9]
  | .xorD => [0xAA]
  | .xorE => [0xAB]
  | .xorH => [0xAC]
  | .xorL => [0xAD]
  | .xorIndHl => [0xAE]
  | .xorA => [0xAF]
  | .orB => [0xB0]
  | .orC => [0xB1]
  | .orD => [0xB2]
  | .orE => [0xB3]
  | .orH => [0xB4]
  | .orL => [0xB5]
  | .orIndHl => [0xB6]
  | .orA => [0xB7]
  | .cpB => [0xB8]
  | .cpC => [0xB9]
  | .cpD => [0xBA]
  | .cpE => [0xBB]
  | .cpH => [0xBC]
  | .cpL => [0xBD]
  | .cpIndHl => [0xBE]
  | .cpA => [0xBF]
  | .retNz => [0xC0]
  | .popBc => [0xC1]
  | .jpNzA16 v => [0xC2, lo8 v, hi8 v]
  | .jpA16 v => [0xC3, lo8 v, hi8 v]
  | .callNzA16 v => [0xC4, lo8 v, hi8 v]
  | .pushBc => [0xC5]
  | .addAD8 v => [0xC6, v]
  | .rst00 => [0xC7]
  | .retZ => [0xC8]
  | .ret => [0xC9]
  | .jpZA16 v => [0xCA, lo8 v, hi8 v]
  | .prefixCb => [0xCB]
  | .callZA16 v => [0xCC, lo8 v, hi8 v]
  | .callA16 v => [0xCD, lo8 v, hi8 v]
  | .adcAD8 v => [0xCE, v]
  | .rst08 => [0xCF]
  | .retNc => [0xD0]
  | .popDe => [0xD1]
  | .jpNcA16 v => [0xD2, lo8 v, hi8 v]
  | .callNcA16 v => [0xD4, lo8 v, hi8 v]
  | .pushDe => [0xD5]
  | .subD8 v => [0xD6, v]
  | .rst10 => [0xD7]
  | .retC => [0xD8]
  | .reti => [0xD9]
  | .jpCA16 v => [0xDA, lo8 v, hi8 v]
  | .callCA16 v => [0xDC, lo8 v, hi8 v]
  | .sbcAD8 v => [0xDE, v]
  | .rst18 => [0xDF]
  | .ldhIndA8A v => [0xE0, v]
  | .popHl => [0xE1]
  | .ldIndCA => [0xE2]
  | .pushHl => [0xE5]
  | .andD8 v => [0xE6, v]
  | .rst20 => [0xE7]
  | .addSpE8 v => [0xE8, v]
  | .jpHl => [0xE9]
  | .ldIndA16A v => [0xEA, lo8 v, hi8 v]
  | .xorD8 v => [0xEE, v]
  | .rst28 => [0xEF]
  | .ldhAIndA8 v => [0xF0, v]
  | .popAf => [0xF1]
  | .ldAIndC => [0xF2]
  | .di => [0xF3]
  | .pushAf => [0xF5]
  | .orD8 v => [0xF6, v]
  | .rst30 => [0xF7]
  | .ldHlSpE8 v => [0xF8, v]
  | .ldSpHl => [0xF9]
  | .ldAIndA16 v => [0xFA, lo8 v, hi8 v]
  | .ei => [0xFB]
  | .cpD8 v => [0xFE, v]
  | .rst38 => [0xFF]
  | .rlcB => [0xCB, 0x00]
  | .rlcC => [0xCB, 0x01]
  | .rlcD => [0xCB, 0x02]
  | .rlcE => [0xCB, 0x03]
  | .rlcH => [0xCB, 0x04]
  | .rlcL => [0xCB, 0x05]
  | .rlcIndHl => [0xCB, 0x06]
  | .rlcA => [0xCB, 0x07]
  | .rrcB => [0xCB, 0x08]
  | .rrcC => [0xCB, 0x09]
  | .rrcD => [0xCB, 0x0A]
  | .rrcE => [0xCB, 0x0B]
  | .rrcH => [0xCB, 0x0C]
  | .rrcL => [0xCB, 0x0D]
  | .rrcIndHl => [0xCB, 0x0E]
  | .rrcA => [0xCB, 0x0F]
  | .rlB => [0xCB, 0x10]
  | .rlC => [0xCB, 0x11]
  | .rlD => [0xCB, 0x12]
  | .rlE => [0xCB, 0x13]
  | .rlH => [0xCB, 0x14]
  | .rlL => [0xCB, 0x15]
  | .rlIndHl => [0xCB, 0x16]
  | .rlA => [0xCB, 0x17]
  | .rrB => [0xCB, 0x18]
  | .rrC => [0xCB, 0x19]
  | .rrD => [0xCB, 0x1A]
  | .rrE => [0xCB, 0x1B]
  | .rrH => [0xCB, 0x1C]
  | .rrL => [0xCB, 0x1D]
  | .rrIndHl => [0xCB, 0x1E]
  | .rrA => [0xCB, 0x1F]
  | .slaB => [0xCB, 0x20]
  | .slaC => [0xCB, 0x21]
  | .slaD => [0xCB, 0x22]
  | .slaE => [0xCB, 0x23]
  | .slaH => [0xCB, 0x24]
  | .slaL => [0xCB, 0x25]
  | .slaIndHl => [0xCB, 0x26]
  | .slaA => [0xCB, 0x27]
  | .sraB => [0xCB, 0x28]
  | .sraC => [0xCB, 0x29]
  | .sraD => [0xCB, 0x2A]
  | .sraE => [0xCB, 0x2B]
  | .sraH => [0xCB, 0x2C]
  | .sraL => [0xCB, 0x2D]
  | .sraIndHl => [0xCB, 0x2E]
  | .sraA => [0xCB, 0x2F]
  | .swapB => [0xCB, 0x30]
  | .swapC => [0xCB, 0x31]
  | .swapD => [0xCB, 0x32]
  | .swapE => [0xCB, 0x33]
  | .swapH => [0xCB, 0x34]
  | .swapL => [0xCB, 0x35]
  | .swapIndHl => [0xCB, 0x36]
  | .swapA => [0xCB, 0x37]
  | .srlB => [0xCB, 0x38]
  | .srlC => [0xCB, 0x39]
  | .srlD => [0xCB, 0x3A]
  | .srlE => [0xCB, 0x3B]
  | .srlH => [0xCB, 0x3C]
  | .srlL => [0xCB, 0x3D]
  | .srlIndHl => [0xCB, 0x3E]
  | .srlA => [0xCB, 0x3F]
  | .bit0B => [0xCB, 0x40]
  | .bit0C => [0xCB, 0x41]
  | .bit0D => [0xCB, 0x42]
  | .bit0E => [0xCB, 0x43]
  | .bit0H => [0xCB, 0x44]
  | .bit0L => [0xCB, 0x45]
  | .bit0IndHl => [0xCB, 0x46]
  | .bit0A => [0xCB, 0x47]
  | .bit1B => [0xCB, 0x48]
  | .bit1C => [0xCB, 0x49]
  | .bit1D => [0xCB, 0x4A]
  | .bit1E => [0xCB, 0x4B]
  | .bit1H => [0xCB, 0x4C]
  | .bit1L => [0xCB, 0x4D]
  | .bit1IndHl => [0xCB, 0x4E]
  | .bit1A => [0xCB, 0x4F]
  | .bit2B => [0xCB, 0x50]
  | .bit2C => [0xCB, 0x51]
  | .bit2D => [0xCB, 0x52]
  | .bit2E => [0xCB, 0x53]
  | .bit2H => [0xCB, 0x54]
  | .bit2L => [0xCB, 0x55]
  | .bit2IndHl => [0xCB, 0x56]
  | .bit2A => [0xCB, 0x57]
  | .bit3B => [0xCB, 0x58]
  | .bit3C => [0xCB, 0x59]
  | .bit3D => [0xCB, 0x5A]
  | .bit3E => [0xCB, 0x5B]
  | .bit3H => [0xCB, 0x5C]
  | .bit3L => [0xCB, 0x5D]
  | .bit3IndHl => [0xCB, 0x5E]
  | .bit3A => [0xCB, 0x5F]
  | .bit4B => [0xCB, 0x60]
  | .bit4C => [0xCB, 0x61]
  | .bit4D => [0xCB, 0x62]
  | .bit4E => [0xCB, 0x63]
  | .bit4H => [0xCB, 0x64]
  | .bit4L => [0xCB, 0x65]
  | .bit4IndHl => [0xCB, 0x66]
  | .bit4A => [0xCB, 0x67]
  | .bit5B => [0xCB, 0x68]
  | .bit5C => [0xCB, 0x69]
  | .bit5D => [0xCB, 0x6A]
  | .bit5E => [0xCB, 0x6B]
  | .bit5H => [0xCB, 0x6C]
  | .bit5L => [0xCB, 0x6D]
  | .bit5IndHl => [0xCB, 0x6E]
  | .bit5A => [0xCB, 0x6F]
  | .bit6B => [0xCB, 0x70]
  | .bit6C => [0xCB, 0x71]
  | .bit6D => [0xCB, 0x72]
  | .bit6E => [0xCB, 0x73]
  | .bit6H => [0xCB, 0x74]
  | .bit6L => [0xCB, 0x75]
  | .bit6IndHl => [0xCB, 0x76]
  | .bit6A => [0xCB, 0x77]
  | .bit7B => [0xCB, 0x78]
  | .bit7C => [0xCB, 0x79]
  | .bit7D => [0xCB, 0x7A]
  | .bit7E => [0xCB, 0x7B]
  | .bit7H => [0xCB, 0x7C]
  | .bit7L => [0xCB, 0x7D]
  | .bit7IndHl => [0xCB, 0x7E]
  | .bit7A => [0xCB, 0x7F]
  | .res0B => [0xCB, 0x80]
  | .res0C => [0xCB, 0x81]
  | .res0D => [0xCB, 0x82]
  | .res0E => [0xCB, 0x83]
  | .res0H => [0xCB, 0x84]
  | .res0L => [0xCB, 0x85]
  | .res0IndHl => [0xCB, 0x86]
  | .res0A => [0xCB, 0x87]
  | .res1B => [0xCB, 0x88]
  | .res1C => [0xCB, 0x89]
  | .res1D => [0xCB, 0x8A]
  | .res1E => [0xCB, 0x8B]
  | .res1H => [0xCB, 0x8C]
  | .res1L => [0xCB, 0x8D]
  | .res1IndHl => [0xCB, 0x8E]
  | .res1A => [0xCB, 0x8F]
  | .res2B => [0xCB, 0x90]
  | .res2C => [0xCB, 0x91]
  | .res2D => [0xCB, 0x92]
  | .res2E => [0xCB, 0x93]
  | .res2H => [0xCB, 0x94]
  | .res2L => [0xCB, 0x95]
  | .res2IndHl => [0xCB, 0x96]
  | .res2A => [0xCB, 0x97]
  | .res3B => [0xCB, 0x98]
  | .res3C => [0xCB, 0x99]
  | .res3D => [0xCB, 0x9A]
  | .res3E => [0xCB, 0x9B]
  | .res3H => [0xCB, 0x9C]
  | .res3L => [0xCB, 0x9D]
  | .res3IndHl => [0xCB, 0x9E]
  | .res3A => [0xCB, 0x9F]
  | .res4B => [0xCB, 0xA0]
  | .res4C => [0xCB, 0xA1]
  | .res4D => [0xCB, 0xA2]
  | .res4E => [0xCB, 0xA3]
  | .res4H => [0xCB, 0xA4]
  | .res4L => [0xCB, 0xA5]
  | .res4IndHl => [0xCB, 0xA6]
  | .res4A => [0xCB, 0xA7]
  | .res5B => [0xCB, 0xA8]
  | .res5C => [0xCB, 0xA9]
  | .res5D => [0xCB, 0xAA]
  | .res5E => [0xCB, 0xAB]
  | .res5H => [0xCB, 0xAC]
  | .res5L => [0xCB, 0xAD]
  | .res5IndHl => [0xCB, 0xAE]
  | .res5A => [0xCB, 0xAF]
  | .res6B => [0xCB, 0xB0]
  | .res6C => [0xCB, 0xB1]
  | .res6D => [0xCB, 0xB2]
  | .res6E => [0xCB, 0xB3]
  | .res6H => [0xCB, 0xB4]
  | .res6L => [0xCB, 0xB5]
  | .res6IndHl => [0xCB, 0xB6]
  | .res6A => [0xCB, 0xB7]
  | .res7B => [0xCB, 0xB8]
  | .res7C => [0xCB, 0xB9]
  | .res7D => [0xCB, 0xBA]
  | .res7E => [0xCB, 0xBB]
  | .res7H => [0xCB, 0xBC]
  | .res7L => [0xCB, 0xBD]
  | .res7IndHl => [0xCB, 0xBE]
  | .res7A => [0xCB, 0xBF]
  | .set0B => [0xCB, 0xC0]
  | .set0C => [0xCB, 0xC1]
  | .set0D => [0xCB, 0xC2]
  | .set0E => [0xCB, 0xC3]
  | .set0H => [0xCB, 0xC4]
  | .set0L => [0xCB, 0xC5]
  | .set0IndHl => [0xCB, 0xC6]
  | .set0A => [0xCB, 0xC7]
  | .set1B => [0xCB, 0xC8]
  | .set1C => [0xCB, 0xC9]
  | .set1D => [0xCB, 0xCA]
  | .set1E => [0xCB, 0xCB]
  | .set1H => [0xCB, 0xCC]
  | .set1L => [0xCB, 0xCD]
  | .set1IndHl => [0xCB, 0xCE]
  | .set1A => [0xCB, 0xCF]
  | .set2B => [0xCB, 0xD0]
  | .set2C => [0xCB, 0xD1]
  | .set2D => [0xCB, 0xD2]
  | .set2E => [0xCB, 0xD3]
  | .set2H => [0xCB, 0xD4]
  | .set2L => [0xCB, 0xD5]
  | .set2IndHl => [0xCB, 0xD6]
  | .set2A => [0xCB, 0xD7]
  | .set3B => [0xCB, 0xD8]
  | .set3C => [0xCB, 0xD9]
  | .set3D => [0xCB, 0xDA]
  | .set3E => [0xCB, 0xDB]
  | .set3H => [0xCB, 0xDC]
  | .set3L => [0xCB, 0xDD]
  | .set3IndHl => [0xCB, 0xDE]
  | .set3A => [0xCB, 0xDF]
  | .set4B => [0xCB, 0xE0]
  | .set4C => [0xCB, 0xE1]
  | .set4D => [0xCB, 0xE2]
  | .set4E => [0xCB, 0xE3]
  | .set4H => [0xCB, 0xE4]
  | .set4L => [0xCB, 0xE5]
  | .set4IndHl => [0xCB, 0xE6]
  | .set4A => [0xCB, 0xE7]
  | .set5B => [0xCB, 0xE8]
  | .set5C => [0xCB, 0xE9]
  | .set5D => [0xCB, 0xEA]
  | .set5E => [0xCB, 0xEB]
  | .set5H => [0xCB, 0xEC]
  | .set5L => [0xCB, 0xED]
  | .set5IndHl => [0xCB, 0xEE]
  | .set5A => [0xCB, 0xEF]
  | .set6B => [0xCB, 0xF0]
  | .set6C => [0xCB, 0xF1]
  | .set6D => [0xCB, 0xF2]
  | .set6E => [0xCB, 0xF3]
  | .set6H => [0xCB, 0xF4]
  | .set6L => [0xCB, 0xF5]
  | .set6IndHl => [0xCB, 0xF6]
  | .set6A => [0xCB, 0xF7]
  | .set7B => [0xCB, 0xF8]
  | .set7C => [0xCB, 0xF9]
  | .set7D => [0xCB, 0xFA]
  | .set7E => [0xCB, 0xFB]
  | .set7H => [0xCB, 0xFC]
  | .set7L => [0xCB, 0xFD]
  | .set7IndHl => [0xCB, 0xFE]
  | .set7A => [0xCB, 0xFF]

end Sys2Proof
end

