-- ==== Sys2Proof/Machine/State.lean ====
section
/-! DEFINITION. The state of the CORE as plain data (10_state.md R20 to R35, 20_memory.md R50), the events it emits on its
interfaces (40_engine.md R104), the one fault and the state after reset. -/

namespace Sys2Proof.Machine

/-- The regions of the address space (R51). -/
inductive Region where
  | rom0 | romx | vram | eram | wram | echo | oam | unusable | io | hram | ie
  deriving DecidableEq, Repr

/-- The registers, IME and the two run-state flags (R20, R27 to R30): what a trace record carries (R340). -/
structure Registers where
  a : Byte
  f : Byte
  b : Byte
  c : Byte
  d : Byte
  e : Byte
  h : Byte
  l : Byte
  sp : Word
  pc : Word
  ime : Bool
  halted : Bool
  stopped : Bool
  deriving DecidableEq, Repr

/-- The register snapshot the host reads between ticks (R104): the state of 10_state.md, which is the registers and the cycle
counter (R33). -/
structure Snapshot extends Registers where
  cycles : BitVec 64
  deriving DecidableEq, Repr

/-- A trace record (R340): the opcode identity (the primary byte, and the second byte of a 0xCB instruction), the address
of its first byte, and the registers after the instruction. -/
structure TraceRecord where
  opcode : Byte
  second : Option Byte
  pc0 : Word
  regs : Registers
  deriving DecidableEq, Repr

/-- What the CORE emits on its interfaces (R104). -/
inductive Event where
  /-- A call of the timing hook with the cycle count (R103, R108). -/
  | sync (count : BitVec 64)
  /-- A ROM write forwarded to the mapper (R57). -/
  | mapperWrite (addr : Word) (value : Byte)
  /-- The non-fatal report of a dropped write (R322). -/
  | memoryAccessFault (addr : Word) (value : Byte) (region : Region)
  /-- A record for the trace sink (R340). -/
  | trace (record : TraceRecord)
  deriving DecidableEq, Repr

/-- The state of the CORE. BC, DE, HL and AF are views (R22), not fields. -/
structure State where
  /-- The accumulator (R20). -/
  a : Byte
  /-- The flag register: Z, N, H, C in bits 7 to 4, bits 3 to 0 always 0 (R24). -/
  f : Byte
  b : Byte
  c : Byte
  d : Byte
  e : Byte
  h : Byte
  l : Byte
  /-- The stack pointer (R27). -/
  sp : Word
  /-- The address of the next byte to fetch (R28). -/
  pc : Word
  /-- The interrupt master enable flag, tracked as state only (R29). -/
  ime : Bool
  /-- The two run-state flags (R30). -/
  halted : Bool
  stopped : Bool
  /-- The cycle counter (R33). -/
  cycles : BitVec 64
  /-- The address space (R50), without the bytes that equal what an unlisted address reads as (log 11). -/
  mem : List Host.Cell
  /-- The parameters the CORE was constructed with; no tick writes them (R8, log 1). -/
  params : Params
  /-- Every event emitted since construction, newest first: the model's own field, read by no rule (log 3). -/
  log : List Event
  deriving DecidableEq, Repr

/-- Why the machine stops. -/
inductive Fault where
  /-- DecodeError (R321): raised by step, and by nothing else, when the byte at the opcode position is one of the eleven
  of R92. It is the spec's own fatal outcome, so it is safe; `after` is the state the tick leaves, whose snapshot
  the host reports (R328). -/
  | decodeError (byte : Byte) (pc : Word) (after : State)
  deriving DecidableEq, Repr

/-- Why an instruction is refused. -/
inductive Refusal where
  /-- An instruction without a meaning: raised by an arm of exec; safe, since nothing is claimed of it. No arm of this
  model raises it. -/
  | notModelled (mnemonic : String)
  deriving DecidableEq, Repr

/-- The outcome of a meaning or a step. -/
abbrev Result := Host.Outcome State Fault Refusal

/-- The state after construction with the empty image and the default parameters (R35, R350, R351; log 1, log 16). -/
def State.reset : State where
  a := 0x00
  f := 0x00
  b := 0x00
  c := 0x00
  d := 0x00
  e := 0x00
  h := 0x00
  l := 0x00
  sp := 0xFFFE
  pc := 0x0100
  ime := true
  halted := false
  stopped := false
  cycles := 0
  mem := []
  params := Params.default
  log := []

end Sys2Proof.Machine
end

