-- ==== Sys2Proof/Machine/Flags.lean ====
section
/-! DEFINITION. The flag register (10_state.md R24, R25) and every ALU primitive with its flags (40_engine.md R111 to
R118, 42_arithmetic.md R196). A primitive is a function of its operands to the result and the four flags; a flag its
rule leaves unchanged is one of its operands. -/

namespace Sys2Proof.Machine

/-- The four flags (R24). -/
structure Flags where
  z : Bool
  n : Bool
  h : Bool
  c : Bool
  deriving DecidableEq, Repr

/-- The flags in a byte: Z bit 7, N bit 6, H bit 5, C bit 4 (R24). -/
def Flags.ofByte (v : Byte) : Flags where
  z := v.getLsbD 7
  n := v.getLsbD 6
  h := v.getLsbD 5
  c := v.getLsbD 4

/-- A bit as a byte with that bit lowest. -/
def bitByte (b : Bool) : Byte := if b then 1 else 0

/-- The byte of the flags, its low nibble 0 (R24). -/
def Flags.toByte (fl : Flags) : Byte :=
  (bitByte fl.z <<< 7) ||| (bitByte fl.n <<< 6) ||| (bitByte fl.h <<< 5) ||| (bitByte fl.c <<< 4)

/-- `add8(a, b, cin)` (R111): computed once over the 9-bit sum. -/
def add8 (a b : Byte) (cin : Bool) : Byte × Flags :=
  let s := a.toNat + b.toNat + cin.toNat
  let r := BitVec.ofNat 8 s
  (r, { z := r == 0, n := false, h := decide (a.toNat % 16 + b.toNat % 16 + cin.toNat ≥ 0x10), c := decide (s ≥ 0x100) })

/-- `sub8(a, b, cin)` (R112): computed once over the difference; H and C are the borrows from bits 4 and 8. -/
def sub8 (a b : Byte) (cin : Bool) : Byte × Flags :=
  let d : Int := (a.toNat : Int) - b.toNat - cin.toNat
  let r := BitVec.ofInt 8 d
  (r, { z := r == 0, n := true, h := decide (((a.toNat % 16 : Nat) : Int) - (b.toNat % 16 : Nat) - cin.toNat < 0),
        c := decide (d < 0) })

/-- `inc8(v)` (R113); C is the old C. -/
def inc8 (v : Byte) (c : Bool) : Byte × Flags :=
  let r := v + 1
  (r, { z := r == 0, n := false, h := decide (v.toNat % 16 + 1 ≥ 0x10), c := c })

/-- `dec8(v)` (R113); C is the old C. -/
def dec8 (v : Byte) (c : Bool) : Byte × Flags :=
  let r := v - 1
  (r, { z := r == 0, n := true, h := decide (((v.toNat % 16 : Nat) : Int) - 1 < 0), c := c })

/-- `inc16(v)` (R114): no flag. -/
def inc16 (v : Word) : Word := v + 1

/-- `dec16(v)` (R114): no flag. -/
def dec16 (v : Word) : Word := v - 1

/-- `add16(h, v)` (R115): carries from bits 11 and 15; Z is the old Z. -/
def add16 (h v : Word) (z : Bool) : Word × Flags :=
  (h + v, { z := z, n := false, h := decide (h.toNat % 0x1000 + v.toNat % 0x1000 ≥ 0x1000),
            c := decide (h.toNat + v.toNat ≥ 0x10000) })

/-- `sext(e)` as a word (R9, R83). -/
def sext16 (e : Byte) : Word := e.signExtend 16

/-- `addsp(sp, e)` (R116): H and C from the unsigned addition of the low byte of SP and e. -/
def addsp (sp : Word) (e : Byte) : Word × Flags :=
  (sp + sext16 e, { z := false, n := false, h := decide (sp.toNat % 16 + e.toNat % 16 ≥ 0x10),
                    c := decide (sp.toNat % 256 + e.toNat ≥ 0x100) })

/-- `and8(a, b)` (R117). -/
def and8 (a b : Byte) : Byte × Flags :=
  (a &&& b, { z := a &&& b == 0, n := false, h := true, c := false })

/-- `xor8(a, b)` (R117). -/
def xor8 (a b : Byte) : Byte × Flags :=
  (a ^^^ b, { z := a ^^^ b == 0, n := false, h := false, c := false })

/-- `or8(a, b)` (R117). -/
def or8 (a b : Byte) : Byte × Flags :=
  (a ||| b, { z := a ||| b == 0, n := false, h := false, c := false })

/-- The 8-bit ALU operation of field y (R87) on A and an operand: the value A gets and the flags. CP leaves A (R192). -/
def aluResult (op : AluOp) (a v : Byte) (c : Bool) : Byte × Flags :=
  match op with
  | .add => add8 a v false
  | .adc => add8 a v c
  | .sub => sub8 a v false
  | .sbc => sub8 a v c
  | .and => and8 a v
  | .xor => xor8 a v
  | .or => or8 a v
  | .cp => (a, (sub8 a v false).2)

/-- The result and the bit shifted out of `shift(op, v)` (R118); `c` is the old C. -/
def shiftBits (op : ShiftOp) (v : Byte) (c : Bool) : Byte × Bool :=
  match op with
  | .rlc => ((v <<< 1) ||| bitByte (v.getLsbD 7), v.getLsbD 7)
  | .rrc => ((v >>> 1) ||| (bitByte (v.getLsbD 0) <<< 7), v.getLsbD 0)
  | .rl => ((v <<< 1) ||| bitByte c, v.getLsbD 7)
  | .rr => ((v >>> 1) ||| (bitByte c <<< 7), v.getLsbD 0)
  | .sla => (v <<< 1, v.getLsbD 7)
  | .sra => ((v >>> 1) ||| (v &&& 0x80), v.getLsbD 0)
  | .srl => (v >>> 1, v.getLsbD 0)
  | .swap => (((v &&& 0x0F) <<< 4) ||| (v >>> 4), false)

/-- `shift(op, v)` with its flags (R118). -/
def shift (op : ShiftOp) (v : Byte) (c : Bool) : Byte × Flags :=
  let r := shiftBits op v c
  (r.1, { z := r.1 == 0, n := false, h := false, c := r.2 })

/-- The accumulator rotates: `shift` with Z by `AccZ(r)` (47_rotate.md, R280 to R283). -/
def accRotate (rule : AccRotateZ) (op : ShiftOp) (v : Byte) (c : Bool) : Byte × Flags :=
  let r := shift op v c
  match rule with
  | .clear => (r.1, { r.2 with z := false })
  | .result => r

/-- The correction of DAA before truncation, and whether it overflowed a byte (R196). -/
def daaCorrected (a : Byte) (fl : Flags) : Int × Bool :=
  let t0 : Int := a.toNat
  if fl.n then
    let t1 := if fl.h then t0 - 0x06 else t0
    let t2 := if fl.c then t1 - 0x60 else t1
    (t2, decide (t2 < 0))
  else
    let t1 := if fl.h || decide (a.toNat % 16 > 9) then t0 + 0x06 else t0
    let t2 := if fl.c || decide (t1 > 0x9F) then t1 + 0x60 else t1
    (t2, decide (t2 > 0xFF))

/-- DAA (R196): N is unchanged, C by `DAA_CARRY_RULE`. -/
def daa (rule : DaaCarryRule) (a : Byte) (fl : Flags) : Byte × Flags :=
  let t := daaCorrected a fl
  let r := BitVec.ofInt 8 t.1
  (r, { z := r == 0, n := fl.n, h := false,
        c := match rule with
          | .or => fl.c || t.2
          | .assign => t.2 })

end Sys2Proof.Machine
end

