-- ==== Sys2Proof/Machine/Memory.lean ====
section
/-! DEFINITION. The 65,536-byte array of 20_memory.md R50 as a sorted list of cells: its canonical form, reading and
writing one byte, and the regions of R51. -/

namespace Sys2Proof.Machine

/-- The first address above the ROM window 0x0000-0x7FFF (R351). -/
def romWindow : Nat := 0x8000

/-- What an unlisted address reads as: `ROM_PAD` in the ROM window, `MEM_FILL` above it (R351; log 11). -/
def Memory.blank (p : Params) (a : Nat) : Byte :=
  if a < romWindow then p.romPad else p.memFill

/-- The canonical form: addresses of the 16-bit space, strictly rising, no cell equal to what its address reads as
unlisted. -/
def Memory.wf (p : Params) : List Host.Cell → Bool
  | [] => true
  | (k, v) :: m => decide (k < 0x10000) && decide (v ≠ Memory.blank p k) && m.all (fun c => decide (k < c.1)) && Memory.wf p m

/-- The byte at an address. -/
def Memory.read (p : Params) : List Host.Cell → Nat → Byte
  | [], a => Memory.blank p a
  | (k, v) :: m, a => if k = a then v else Memory.read p m a

/-- Store one byte, keeping the canonical form: a cell that would equal its blank value is removed. -/
def Memory.write (p : Params) : List Host.Cell → Nat → Byte → List Host.Cell
  | [], a, v => if v = Memory.blank p a then [] else [(a, v)]
  | (k, w) :: m, a, v =>
    if k < a then (k, w) :: Memory.write p m a v
    else if k = a then (if v = Memory.blank p a then m else (a, v) :: m)
    else if v = Memory.blank p a then (k, w) :: m
    else (a, v) :: (k, w) :: m

/-- The cells of a cartridge image copied from address `a` on: its bytes in the ROM window, without those that equal the
padding; bytes beyond 0x7FFF are not in the address space (R351, D6). -/
def Memory.ofImage (p : Params) : Nat → List Byte → List Host.Cell
  | _, [] => []
  | a, v :: img =>
    if a < romWindow then
      if v = Memory.blank p a then Memory.ofImage p (a + 1) img else (a, v) :: Memory.ofImage p (a + 1) img
    else []

/-- The region of an address (R52). -/
def region (a : Word) : Region :=
  if a.toNat ≤ 0x3FFF then .rom0
  else if a.toNat ≤ 0x7FFF then .romx
  else if a.toNat ≤ 0x9FFF then .vram
  else if a.toNat ≤ 0xBFFF then .eram
  else if a.toNat ≤ 0xDFFF then .wram
  else if a.toNat ≤ 0xFDFF then .echo
  else if a.toNat ≤ 0xFE9F then .oam
  else if a.toNat ≤ 0xFEFF then .unusable
  else if a.toNat ≤ 0xFF7F then .io
  else if a.toNat ≤ 0xFFFE then .hram
  else .ie

/-- The regions whose bytes a CPU write never changes (R57, R58). -/
def Region.readOnly : Region → Bool
  | .rom0 | .romx | .unusable => true
  | .vram | .eram | .wram | .echo | .oam | .io | .hram | .ie => false

/-- The distance from working RAM to its echo (R59). -/
def echoOffset : Word := 0x2000

end Sys2Proof.Machine
end

