-- ==== Sys2Proof/Machine/Ops.lean ====
section
/-! DEFINITION. The shared operations over memory, the bus, the fetch path and the stack, the one exception (DecodeError),
the end of a tick, construction and the host's own access. -/

namespace Sys2Proof.Machine

/-! ## The raw array and the interfaces -/

/-- `mem[a]` (R50). -/
def State.byteAt (s : State) (a : Word) : Byte := Memory.read s.params s.mem a.toNat

/-- `mem[a] <- v`, a store without policy, count or event. -/
def State.poke (s : State) (a : Word) (v : Byte) : State :=
  { s with mem := Memory.write s.params s.mem a.toNat v }

/-- Emit an event on its interface (R104, log 3). -/
def State.emit (s : State) (e : Event) : State := { s with log := e :: s.log }

/-- The registers of a trace record (R340). -/
def State.registers (s : State) : Registers where
  a := s.a
  f := s.f
  b := s.b
  c := s.c
  d := s.d
  e := s.e
  h := s.h
  l := s.l
  sp := s.sp
  pc := s.pc
  ime := s.ime
  halted := s.halted
  stopped := s.stopped

/-- The host's read of the state of 10_state.md between ticks, `cycles` (R33) included (R104, D45; log 13). -/
def State.snapshot (s : State) : Snapshot := { s.registers with cycles := s.cycles }

/-! ## Bus accesses -/

/-- The accounting of one bus access (R103): `cycles` advances by `CYCLES_PER_ACCESS` modulo 2^64, then the hook is
called with it. -/
def State.busAccess (s : State) : State :=
  let cycles := s.cycles + BitVec.ofNat 64 s.params.cyclesPerAccess
  { s with cycles := cycles, log := .sync cycles :: s.log }

/-- `MemRead(a, 1)` (R55, R103): the byte stored at that very address, then the accounting. -/
def memRead (a : Word) (s : State) : Byte × State := (s.byteAt a, s.busAccess)

/-- The region policy of a CPU write (R56 to R60), before the accounting. -/
def State.storePolicy (s : State) (a : Word) (v : Byte) : State :=
  match region a with
  | .rom0 => (s.emit (.mapperWrite a v)).emit (.memoryAccessFault a v .rom0)
  | .romx => (s.emit (.mapperWrite a v)).emit (.memoryAccessFault a v .romx)
  | .unusable => s.emit (.memoryAccessFault a v .unusable)
  | .wram => if a.toNat ≤ 0xDDFF then (s.poke a v).poke (a + echoOffset) v else s.poke a v
  | .echo => (s.poke a v).poke (a - echoOffset) v
  | .vram | .eram | .oam | .io | .hram | .ie => s.poke a v

/-- `MemWrite(a, 1, v)` (R56, R103): the policy, then the accounting (R322, D28). -/
def memWrite (a : Word) (v : Byte) (s : State) : State := (s.storePolicy a v).busAccess

/-! ## Fetching an instruction -/

/-- `FetchByte()` (R105): PC is taken modulo 65536 (R28). -/
def fetchByte (s : State) : Byte × State :=
  let (b, s) := memRead s.pc s
  (b, { s with pc := s.pc + 1 })

/-- `FetchImm16()` (R107). -/
def fetchImm16 (s : State) : Word × State :=
  let (lo, s) := fetchByte s
  let (hi, s) := fetchByte s
  (imm16 lo hi, s)

/-- Fetch an instruction: its opcode byte, the byte after the escape, and all of its operand bytes, in address order
(R100, R106, R107; log 9). STOP's pad byte is fetched and ignored (R292). An unmapped byte is given back as it is. -/
def fetchInstr (s : State) : Except Byte Instr × State :=
  let (b, s) := fetchByte s
  match decodePrimary b with
  | .unmapped => (.error b, s)
  | .op i => (.ok i, s)
  | .escape =>
    let (x, s) := fetchByte s
    (.ok (decodeSecondary x), s)
  | .opPad i =>
    match s.params.stopLength with
    | .one => (.ok i, s)
    | .two => (.ok i, (fetchByte s).2)
  | .imm8 mk =>
    let (v, s) := fetchByte s
    (.ok (mk v), s)
  | .imm16 mk =>
    let (v, s) := fetchImm16 s
    (.ok (mk v), s)

/-! ## The exception and the end of a tick -/

/-- `raise DecodeError(b, pc0)` (R106, R321), the only exception of the CORE: PC goes back to the address of the byte, the
access already made stands, and the tick ends there. No handler is entered and nothing is saved (R326), so there is no
return from it (R327). -/
def raiseDecodeError (b : Byte) (pc0 : Word) (s : State) : Result :=
  .fault (.decodeError b pc0 { s with pc := pc0 })

/-- The trace record of an instruction (R340), from the state before its tick and the state after its rule. -/
def traceRecord (before after : State) : TraceRecord where
  opcode := before.byteAt before.pc
  second := if before.byteAt before.pc = 0xCB then some (before.byteAt (before.pc + 1)) else none
  pc0 := before.pc
  regs := after.registers

/-- The end of a tick that executed an instruction (R100, R108): the optional trace record, then the boundary `sync`, which
does not advance `cycles`. -/
def boundary (before s : State) : State :=
  let s := if s.params.traceSink then s.emit (.trace (traceRecord before s)) else s
  s.emit (.sync s.cycles)

/-- The boundary of an outcome. -/
def retire (before : State) : Result → Result
  | .next s => .next (boundary before s)
  | .fault r => .fault r
  | .refused r => .refused r

/-! ## The stack -/

/-- One half of `Push16`: pre-decrement SP, then write a byte there (R260). -/
def pushByte (v : Byte) (s : State) : State :=
  let sp := s.sp - 1
  memWrite sp v { s with sp := sp }

/-- One half of `Pop16`: read the byte at SP, then increment SP (R261). -/
def popByte (s : State) : Byte × State :=
  let (v, s) := memRead s.sp s
  (v, { s with sp := s.sp + 1 })

/-- `Push16(v)` (R260): high byte first, at the higher address. -/
def push16 (v : Word) (s : State) : State := pushByte (lo8 v) (pushByte (hi8 v) s)

/-- `Pop16()` (R261): low byte first. -/
def pop16 (s : State) : Word × State :=
  let (lo, s) := popByte s
  let (hi, s) := popByte s
  (concat16 hi lo, s)

/-! ## Construction and the host -/

/-- `construct(img)` (R350, R351, R35): no bus access and no event. -/
def State.construct (p : Params) (img : List Byte) : State where
  a := 0x00
  f := 0x00
  b := p.resetB
  c := p.resetC
  d := p.resetD
  e := p.resetE
  h := p.resetH
  l := p.resetL
  sp := 0xFFFE
  pc := 0x0100
  ime := true
  halted := false
  stopped := false
  cycles := 0
  mem := Memory.ofImage p 0 img
  params := p
  log := []

/-- The host's read of the raw array between ticks (R62). -/
def State.hostRead (s : State) (a : Word) : Byte := s.byteAt a

/-- The host's write of the raw array between ticks (R62): no policy, no mirroring, no fault, no count. -/
def State.hostWrite (s : State) (a : Word) (v : Byte) : State := s.poke a v

/-- The engine state (R30): Stopped wins over Halted (D42). -/
inductive EngineState where
  | running | halted | stopped
  deriving DecidableEq, Repr

/-- The engine state is a function of the two run-state flags (R30). -/
def State.engineState (s : State) : EngineState :=
  if s.stopped then .stopped else if s.halted then .halted else .running

/-- Place bytes in the array from address `a` on, by host writes; addresses wrap (R64). -/
def State.placeBytes (s : State) (a : Word) : List Byte → State
  | [] => s
  | v :: vs => (s.hostWrite a v).placeBytes (a + 1) vs

end Sys2Proof.Machine
end

