-- ==== Sys2Proof/Machine/Operands.lean ====
section
/-! DEFINITION. Every operand form: registers, pairs, flags, the operand by register code (40_engine.md R109) and
conditions (R110). -/

namespace Sys2Proof.Machine

/-! ## Registers and pairs -/

/-- `x[r]` (R10). -/
def State.reg (s : State) : Reg8 → Byte
  | .b => s.b
  | .c => s.c
  | .d => s.d
  | .e => s.e
  | .h => s.h
  | .l => s.l
  | .a => s.a

/-- `x[r] <- v` (R10). -/
def State.setReg (s : State) (r : Reg8) (v : Byte) : State :=
  match r with
  | .b => { s with b := v }
  | .c => { s with c := v }
  | .d => { s with d := v }
  | .e => { s with e := v }
  | .h => { s with h := v }
  | .l => { s with l := v }
  | .a => { s with a := v }

/-- BC as a view (R22). -/
def State.bc (s : State) : Word := concat16 s.b s.c

/-- DE as a view (R22). -/
def State.de (s : State) : Word := concat16 s.d s.e

/-- HL as a view (R22). -/
def State.hl (s : State) : Word := concat16 s.h s.l

/-- AF as a view (R22). -/
def State.af (s : State) : Word := concat16 s.a s.f

/-- `rp[HL] <- v` (R23). -/
def State.setHl (s : State) (v : Word) : State := { s with h := hi8 v, l := lo8 v }

/-- `rp[p]` for the `rp` codes (R85); SP is itself. -/
def State.pair (s : State) : Pair → Word
  | .bc => s.bc
  | .de => s.de
  | .hl => s.hl
  | .sp => s.sp

/-- `rp[p] <- v` (R23, R27). -/
def State.setPair (s : State) (p : Pair) (v : Word) : State :=
  match p with
  | .bc => { s with b := hi8 v, c := lo8 v }
  | .de => { s with d := hi8 v, e := lo8 v }
  | .hl => s.setHl v
  | .sp => { s with sp := v }

/-- `rp2[p]` (R85). -/
def State.stackPair (s : State) : StackPair → Word
  | .bc => s.bc
  | .de => s.de
  | .hl => s.hl
  | .af => s.af

/-- `rp2[p] <- v`; a write of AF masks F to its high nibble (R23). -/
def State.setStackPair (s : State) (p : StackPair) (v : Word) : State :=
  match p with
  | .bc => { s with b := hi8 v, c := lo8 v }
  | .de => { s with d := hi8 v, e := lo8 v }
  | .hl => s.setHl v
  | .af => { s with a := hi8 v, f := lo8 v &&& 0xF0 }

/-! ## Flags -/

/-- The flags of F (R24). -/
def State.flags (s : State) : Flags := Flags.ofByte s.f

/-- Write the four flags; F's low nibble is stored as 0 (R24, R25; log 12). -/
def State.setFlags (s : State) (fl : Flags) : State := { s with f := fl.toByte }

/-- `cond(cc)` (R110). -/
def State.cond (s : State) : Cond → Bool
  | .nz => !s.flags.z
  | .z => s.flags.z
  | .nc => !s.flags.c
  | .c => s.flags.c

/-! ## Operands by register code -/

/-- `read8(c)` (R109): the form (HL) is a bus access. -/
def read8 (o : Operand8) (s : State) : Byte × State :=
  match o with
  | .reg r => (s.reg r, s)
  | .hlInd => memRead s.hl s

/-- `write8(c, v)` (R109): the form (HL) is a bus access through the region policy. -/
def write8 (o : Operand8) (v : Byte) (s : State) : State :=
  match o with
  | .reg r => s.setReg r v
  | .hlInd => memWrite s.hl v s

/-! ## Addresses -/

/-- The high-page address 0xFF00 + n of LDH and LD (C) (R83, D40). -/
def highPage (n : Byte) : Word := concat16 0xFF n

end Sys2Proof.Machine
end

