-- ==== Sys2Proof/Machine/Arithmetic.lean ====
section
/-! DEFINITION. The arithmetic instructions (42_arithmetic.md R180 to R197). Arithmetic wraps and is never an error
(R119). The operand is read before A and F are written (R120). -/

namespace Sys2Proof.Machine

/-- An 8-bit ALU operation on A and a value: A and the flags (R180 to R194, R200 to R208). -/
def aluA (op : AluOp) (v : Byte) (s : State) : State :=
  let (r, fl) := aluResult op s.a v s.flags.c
  { s with a := r }.setFlags fl

/-- The register and (HL) forms: the operand by its code, then the operation. -/
def aluOperand (op : AluOp) (o : Operand8) (s : State) : State :=
  let (v, s) := read8 o s
  aluA op v s

/-- R195: `rp[HL] <- add16(rp[HL], rp[p])`. -/
def addHl (p : Pair) (s : State) : State :=
  let (r, fl) := add16 s.hl (s.pair p) s.flags.z
  (s.setHl r).setFlags fl

/-- R197: `SP <- addsp(SP, e)`. -/
def addSp (e : Byte) (s : State) : State :=
  let (r, fl) := addsp s.sp e
  { s with sp := r }.setFlags fl

/-- R196. -/
def daaA (s : State) : State :=
  let (r, fl) := daa s.params.daaCarryRule s.a s.flags
  { s with a := r }.setFlags fl

/-- ADD HL,BC (R195). -/
def execAddHlBc (s : State) : Result := .next (addHl .bc s)

/-- ADD HL,DE (R195). -/
def execAddHlDe (s : State) : Result := .next (addHl .de s)

/-- DAA (R196). -/
def execDaa (s : State) : Result := .next (daaA s)

/-- ADD HL,HL (R195). -/
def execAddHlHl (s : State) : Result := .next (addHl .hl s)

/-- ADD HL,SP (R195). -/
def execAddHlSp (s : State) : Result := .next (addHl .sp s)

/-- ADD A,B (R180). -/
def execAddAB (s : State) : Result := .next (aluOperand .add (.reg .b) s)

/-- ADD A,C (R180). -/
def execAddAC (s : State) : Result := .next (aluOperand .add (.reg .c) s)

/-- ADD A,D (R180). -/
def execAddAD (s : State) : Result := .next (aluOperand .add (.reg .d) s)

/-- ADD A,E (R180). -/
def execAddAE (s : State) : Result := .next (aluOperand .add (.reg .e) s)

/-- ADD A,H (R180). -/
def execAddAH (s : State) : Result := .next (aluOperand .add (.reg .h) s)

/-- ADD A,L (R180). -/
def execAddAL (s : State) : Result := .next (aluOperand .add (.reg .l) s)

/-- ADD A,(HL) (R181). -/
def execAddAIndHl (s : State) : Result := .next (aluOperand .add .hlInd s)

/-- ADD A,A (R180). -/
def execAddAA (s : State) : Result := .next (aluOperand .add (.reg .a) s)

/-- ADC A,B (R183). -/
def execAdcAB (s : State) : Result := .next (aluOperand .adc (.reg .b) s)

/-- ADC A,C (R183). -/
def execAdcAC (s : State) : Result := .next (aluOperand .adc (.reg .c) s)

/-- ADC A,D (R183). -/
def execAdcAD (s : State) : Result := .next (aluOperand .adc (.reg .d) s)

/-- ADC A,E (R183). -/
def execAdcAE (s : State) : Result := .next (aluOperand .adc (.reg .e) s)

/-- ADC A,H (R183). -/
def execAdcAH (s : State) : Result := .next (aluOperand .adc (.reg .h) s)

/-- ADC A,L (R183). -/
def execAdcAL (s : State) : Result := .next (aluOperand .adc (.reg .l) s)

/-- ADC A,(HL) (R184). -/
def execAdcAIndHl (s : State) : Result := .next (aluOperand .adc .hlInd s)

/-- ADC A,A (R183). -/
def execAdcAA (s : State) : Result := .next (aluOperand .adc (.reg .a) s)

/-- SUB B (R186). -/
def execSubB (s : State) : Result := .next (aluOperand .sub (.reg .b) s)

/-- SUB C (R186). -/
def execSubC (s : State) : Result := .next (aluOperand .sub (.reg .c) s)

/-- SUB D (R186). -/
def execSubD (s : State) : Result := .next (aluOperand .sub (.reg .d) s)

/-- SUB E (R186). -/
def execSubE (s : State) : Result := .next (aluOperand .sub (.reg .e) s)

/-- SUB H (R186). -/
def execSubH (s : State) : Result := .next (aluOperand .sub (.reg .h) s)

/-- SUB L (R186). -/
def execSubL (s : State) : Result := .next (aluOperand .sub (.reg .l) s)

/-- SUB (HL) (R187). -/
def execSubIndHl (s : State) : Result := .next (aluOperand .sub .hlInd s)

/-- SUB A (R186). -/
def execSubA (s : State) : Result := .next (aluOperand .sub (.reg .a) s)

/-- SBC A,B (R189). -/
def execSbcAB (s : State) : Result := .next (aluOperand .sbc (.reg .b) s)

/-- SBC A,C (R189). -/
def execSbcAC (s : State) : Result := .next (aluOperand .sbc (.reg .c) s)

/-- SBC A,D (R189). -/
def execSbcAD (s : State) : Result := .next (aluOperand .sbc (.reg .d) s)

/-- SBC A,E (R189). -/
def execSbcAE (s : State) : Result := .next (aluOperand .sbc (.reg .e) s)

/-- SBC A,H (R189). -/
def execSbcAH (s : State) : Result := .next (aluOperand .sbc (.reg .h) s)

/-- SBC A,L (R189). -/
def execSbcAL (s : State) : Result := .next (aluOperand .sbc (.reg .l) s)

/-- SBC A,(HL) (R190). -/
def execSbcAIndHl (s : State) : Result := .next (aluOperand .sbc .hlInd s)

/-- SBC A,A (R189). -/
def execSbcAA (s : State) : Result := .next (aluOperand .sbc (.reg .a) s)

/-- CP B (R192). -/
def execCpB (s : State) : Result := .next (aluOperand .cp (.reg .b) s)

/-- CP C (R192). -/
def execCpC (s : State) : Result := .next (aluOperand .cp (.reg .c) s)

/-- CP D (R192). -/
def execCpD (s : State) : Result := .next (aluOperand .cp (.reg .d) s)

/-- CP E (R192). -/
def execCpE (s : State) : Result := .next (aluOperand .cp (.reg .e) s)

/-- CP H (R192). -/
def execCpH (s : State) : Result := .next (aluOperand .cp (.reg .h) s)

/-- CP L (R192). -/
def execCpL (s : State) : Result := .next (aluOperand .cp (.reg .l) s)

/-- CP (HL) (R193). -/
def execCpIndHl (s : State) : Result := .next (aluOperand .cp .hlInd s)

/-- CP A (R192). -/
def execCpA (s : State) : Result := .next (aluOperand .cp (.reg .a) s)

/-- ADD A,d8 (R182). -/
def execAddAD8 (d8 : Byte) (s : State) : Result := .next (aluA .add d8 s)

/-- ADC A,d8 (R185). -/
def execAdcAD8 (d8 : Byte) (s : State) : Result := .next (aluA .adc d8 s)

/-- SUB d8 (R188). -/
def execSubD8 (d8 : Byte) (s : State) : Result := .next (aluA .sub d8 s)

/-- SBC A,d8 (R191). -/
def execSbcAD8 (d8 : Byte) (s : State) : Result := .next (aluA .sbc d8 s)

/-- ADD SP,e8 (R197). -/
def execAddSpE8 (e8 : Byte) (s : State) : Result := .next (addSp e8 s)

/-- CP d8 (R194). -/
def execCpD8 (d8 : Byte) (s : State) : Result := .next (aluA .cp d8 s)

end Sys2Proof.Machine
end

