-- ==== Sys2Proof/Machine/CbPrefixed.lean ====
section
/-! DEFINITION. The CB-prefixed instructions (49_cb_prefixed.md R300 to R311). The operand (HL) is read once, then written
once but by BIT (R300). -/

namespace Sys2Proof.Machine

/-- R301 to R308. -/
def cbShift (op : ShiftOp) (o : Operand8) (s : State) : State :=
  let (v, s) := read8 o s
  let (r, fl) := shift op v s.flags.c
  write8 o r (s.setFlags fl)

/-- R309: Z from the tested bit, N cleared, H set, C unchanged; nothing is written. -/
def cbBit (b : Fin 8) (o : Operand8) (s : State) : State :=
  let (v, s) := read8 o s
  s.setFlags { z := !v.getLsbD b, n := false, h := true, c := s.flags.c }

/-- R310: no flag. -/
def cbRes (b : Fin 8) (o : Operand8) (s : State) : State :=
  let (v, s) := read8 o s
  write8 o (v &&& ~~~((1 : Byte) <<< b.val)) s

/-- R311: no flag. -/
def cbSet (b : Fin 8) (o : Operand8) (s : State) : State :=
  let (v, s) := read8 o s
  write8 o (v ||| ((1 : Byte) <<< b.val)) s

/-- The effect of a secondary byte by its fields (R89 to R91). -/
def secondaryOp (x : Byte) (s : State) : State :=
  match fieldX x with
  | 0 => cbShift (.ofCode (fieldY x)) (.ofCode (fieldZ x)) s
  | 1 => cbBit (fieldY x) (.ofCode (fieldZ x)) s
  | 2 => cbRes (fieldY x) (.ofCode (fieldZ x)) s
  | _ => cbSet (fieldY x) (.ofCode (fieldZ x)) s

/-- PREFIX CB (R300, R106): fetch the next byte and execute the instruction it names. step fetches the whole pair before
it runs the secondary instruction itself, so this meaning is the escape byte's taken alone (log 6). -/
def execPrefixCb (s : State) : Result :=
  let (x, s) := fetchByte s
  .next (secondaryOp x s)

/-- RLC B (R301). -/
def execRlcB (s : State) : Result := .next (cbShift .rlc (.reg .b) s)

/-- RLC C (R301). -/
def execRlcC (s : State) : Result := .next (cbShift .rlc (.reg .c) s)

/-- RLC D (R301). -/
def execRlcD (s : State) : Result := .next (cbShift .rlc (.reg .d) s)

/-- RLC E (R301). -/
def execRlcE (s : State) : Result := .next (cbShift .rlc (.reg .e) s)

/-- RLC H (R301). -/
def execRlcH (s : State) : Result := .next (cbShift .rlc (.reg .h) s)

/-- RLC L (R301). -/
def execRlcL (s : State) : Result := .next (cbShift .rlc (.reg .l) s)

/-- RLC (HL) (R301). -/
def execRlcIndHl (s : State) : Result := .next (cbShift .rlc .hlInd s)

/-- RLC A (R301). -/
def execRlcA (s : State) : Result := .next (cbShift .rlc (.reg .a) s)

/-- RRC B (R302). -/
def execRrcB (s : State) : Result := .next (cbShift .rrc (.reg .b) s)

/-- RRC C (R302). -/
def execRrcC (s : State) : Result := .next (cbShift .rrc (.reg .c) s)

/-- RRC D (R302). -/
def execRrcD (s : State) : Result := .next (cbShift .rrc (.reg .d) s)

/-- RRC E (R302). -/
def execRrcE (s : State) : Result := .next (cbShift .rrc (.reg .e) s)

/-- RRC H (R302). -/
def execRrcH (s : State) : Result := .next (cbShift .rrc (.reg .h) s)

/-- RRC L (R302). -/
def execRrcL (s : State) : Result := .next (cbShift .rrc (.reg .l) s)

/-- RRC (HL) (R302). -/
def execRrcIndHl (s : State) : Result := .next (cbShift .rrc .hlInd s)

/-- RRC A (R302). -/
def execRrcA (s : State) : Result := .next (cbShift .rrc (.reg .a) s)

/-- RL B (R303). -/
def execRlB (s : State) : Result := .next (cbShift .rl (.reg .b) s)

/-- RL C (R303). -/
def execRlC (s : State) : Result := .next (cbShift .rl (.reg .c) s)

/-- RL D (R303). -/
def execRlD (s : State) : Result := .next (cbShift .rl (.reg .d) s)

/-- RL E (R303). -/
def execRlE (s : State) : Result := .next (cbShift .rl (.reg .e) s)

/-- RL H (R303). -/
def execRlH (s : State) : Result := .next (cbShift .rl (.reg .h) s)

/-- RL L (R303). -/
def execRlL (s : State) : Result := .next (cbShift .rl (.reg .l) s)

/-- RL (HL) (R303). -/
def execRlIndHl (s : State) : Result := .next (cbShift .rl .hlInd s)

/-- RL A (R303). -/
def execRlA (s : State) : Result := .next (cbShift .rl (.reg .a) s)

/-- RR B (R304). -/
def execRrB (s : State) : Result := .next (cbShift .rr (.reg .b) s)

/-- RR C (R304). -/
def execRrC (s : State) : Result := .next (cbShift .rr (.reg .c) s)

/-- RR D (R304). -/
def execRrD (s : State) : Result := .next (cbShift .rr (.reg .d) s)

/-- RR E (R304). -/
def execRrE (s : State) : Result := .next (cbShift .rr (.reg .e) s)

/-- RR H (R304). -/
def execRrH (s : State) : Result := .next (cbShift .rr (.reg .h) s)

/-- RR L (R304). -/
def execRrL (s : State) : Result := .next (cbShift .rr (.reg .l) s)

/-- RR (HL) (R304). -/
def execRrIndHl (s : State) : Result := .next (cbShift .rr .hlInd s)

/-- RR A (R304). -/
def execRrA (s : State) : Result := .next (cbShift .rr (.reg .a) s)

/-- SLA B (R305). -/
def execSlaB (s : State) : Result := .next (cbShift .sla (.reg .b) s)

/-- SLA C (R305). -/
def execSlaC (s : State) : Result := .next (cbShift .sla (.reg .c) s)

/-- SLA D (R305). -/
def execSlaD (s : State) : Result := .next (cbShift .sla (.reg .d) s)

/-- SLA E (R305). -/
def execSlaE (s : State) : Result := .next (cbShift .sla (.reg .e) s)

/-- SLA H (R305). -/
def execSlaH (s : State) : Result := .next (cbShift .sla (.reg .h) s)

/-- SLA L (R305). -/
def execSlaL (s : State) : Result := .next (cbShift .sla (.reg .l) s)

/-- SLA (HL) (R305). -/
def execSlaIndHl (s : State) : Result := .next (cbShift .sla .hlInd s)

/-- SLA A (R305). -/
def execSlaA (s : State) : Result := .next (cbShift .sla (.reg .a) s)

/-- SRA B (R306). -/
def execSraB (s : State) : Result := .next (cbShift .sra (.reg .b) s)

/-- SRA C (R306). -/
def execSraC (s : State) : Result := .next (cbShift .sra (.reg .c) s)

/-- SRA D (R306). -/
def execSraD (s : State) : Result := .next (cbShift .sra (.reg .d) s)

/-- SRA E (R306). -/
def execSraE (s : State) : Result := .next (cbShift .sra (.reg .e) s)

/-- SRA H (R306). -/
def execSraH (s : State) : Result := .next (cbShift .sra (.reg .h) s)

/-- SRA L (R306). -/
def execSraL (s : State) : Result := .next (cbShift .sra (.reg .l) s)

/-- SRA (HL) (R306). -/
def execSraIndHl (s : State) : Result := .next (cbShift .sra .hlInd s)

/-- SRA A (R306). -/
def execSraA (s : State) : Result := .next (cbShift .sra (.reg .a) s)

/-- SWAP B (R307). -/
def execSwapB (s : State) : Result := .next (cbShift .swap (.reg .b) s)

/-- SWAP C (R307). -/
def execSwapC (s : State) : Result := .next (cbShift .swap (.reg .c) s)

/-- SWAP D (R307). -/
def execSwapD (s : State) : Result := .next (cbShift .swap (.reg .d) s)

/-- SWAP E (R307). -/
def execSwapE (s : State) : Result := .next (cbShift .swap (.reg .e) s)

/-- SWAP H (R307). -/
def execSwapH (s : State) : Result := .next (cbShift .swap (.reg .h) s)

/-- SWAP L (R307). -/
def execSwapL (s : State) : Result := .next (cbShift .swap (.reg .l) s)

/-- SWAP (HL) (R307). -/
def execSwapIndHl (s : State) : Result := .next (cbShift .swap .hlInd s)

/-- SWAP A (R307). -/
def execSwapA (s : State) : Result := .next (cbShift .swap (.reg .a) s)

/-- SRL B (R308). -/
def execSrlB (s : State) : Result := .next (cbShift .srl (.reg .b) s)

/-- SRL C (R308). -/
def execSrlC (s : State) : Result := .next (cbShift .srl (.reg .c) s)

/-- SRL D (R308). -/
def execSrlD (s : State) : Result := .next (cbShift .srl (.reg .d) s)

/-- SRL E (R308). -/
def execSrlE (s : State) : Result := .next (cbShift .srl (.reg .e) s)

/-- SRL H (R308). -/
def execSrlH (s : State) : Result := .next (cbShift .srl (.reg .h) s)

/-- SRL L (R308). -/
def execSrlL (s : State) : Result := .next (cbShift .srl (.reg .l) s)

/-- SRL (HL) (R308). -/
def execSrlIndHl (s : State) : Result := .next (cbShift .srl .hlInd s)

/-- SRL A (R308). -/
def execSrlA (s : State) : Result := .next (cbShift .srl (.reg .a) s)

/-- BIT 0,B (R309). -/
def execBit0B (s : State) : Result := .next (cbBit 0 (.reg .b) s)

/-- BIT 0,C (R309). -/
def execBit0C (s : State) : Result := .next (cbBit 0 (.reg .c) s)

/-- BIT 0,D (R309). -/
def execBit0D (s : State) : Result := .next (cbBit 0 (.reg .d) s)

/-- BIT 0,E (R309). -/
def execBit0E (s : State) : Result := .next (cbBit 0 (.reg .e) s)

/-- BIT 0,H (R309). -/
def execBit0H (s : State) : Result := .next (cbBit 0 (.reg .h) s)

/-- BIT 0,L (R309). -/
def execBit0L (s : State) : Result := .next (cbBit 0 (.reg .l) s)

/-- BIT 0,(HL) (R309). -/
def execBit0IndHl (s : State) : Result := .next (cbBit 0 .hlInd s)

/-- BIT 0,A (R309). -/
def execBit0A (s : State) : Result := .next (cbBit 0 (.reg .a) s)

/-- BIT 1,B (R309). -/
def execBit1B (s : State) : Result := .next (cbBit 1 (.reg .b) s)

/-- BIT 1,C (R309). -/
def execBit1C (s : State) : Result := .next (cbBit 1 (.reg .c) s)

/-- BIT 1,D (R309). -/
def execBit1D (s : State) : Result := .next (cbBit 1 (.reg .d) s)

/-- BIT 1,E (R309). -/
def execBit1E (s : State) : Result := .next (cbBit 1 (.reg .e) s)

/-- BIT 1,H (R309). -/
def execBit1H (s : State) : Result := .next (cbBit 1 (.reg .h) s)

/-- BIT 1,L (R309). -/
def execBit1L (s : State) : Result := .next (cbBit 1 (.reg .l) s)

/-- BIT 1,(HL) (R309). -/
def execBit1IndHl (s : State) : Result := .next (cbBit 1 .hlInd s)

/-- BIT 1,A (R309). -/
def execBit1A (s : State) : Result := .next (cbBit 1 (.reg .a) s)

/-- BIT 2,B (R309). -/
def execBit2B (s : State) : Result := .next (cbBit 2 (.reg .b) s)

/-- BIT 2,C (R309). -/
def execBit2C (s : State) : Result := .next (cbBit 2 (.reg .c) s)

/-- BIT 2,D (R309). -/
def execBit2D (s : State) : Result := .next (cbBit 2 (.reg .d) s)

/-- BIT 2,E (R309). -/
def execBit2E (s : State) : Result := .next (cbBit 2 (.reg .e) s)

/-- BIT 2,H (R309). -/
def execBit2H (s : State) : Result := .next (cbBit 2 (.reg .h) s)

/-- BIT 2,L (R309). -/
def execBit2L (s : State) : Result := .next (cbBit 2 (.reg .l) s)

/-- BIT 2,(HL) (R309). -/
def execBit2IndHl (s : State) : Result := .next (cbBit 2 .hlInd s)

/-- BIT 2,A (R309). -/
def execBit2A (s : State) : Result := .next (cbBit 2 (.reg .a) s)

/-- BIT 3,B (R309). -/
def execBit3B (s : State) : Result := .next (cbBit 3 (.reg .b) s)

/-- BIT 3,C (R309). -/
def execBit3C (s : State) : Result := .next (cbBit 3 (.reg .c) s)

/-- BIT 3,D (R309). -/
def execBit3D (s : State) : Result := .next (cbBit 3 (.reg .d) s)

/-- BIT 3,E (R309). -/
def execBit3E (s : State) : Result := .next (cbBit 3 (.reg .e) s)

/-- BIT 3,H (R309). -/
def execBit3H (s : State) : Result := .next (cbBit 3 (.reg .h) s)

/-- BIT 3,L (R309). -/
def execBit3L (s : State) : Result := .next (cbBit 3 (.reg .l) s)

/-- BIT 3,(HL) (R309). -/
def execBit3IndHl (s : State) : Result := .next (cbBit 3 .hlInd s)

/-- BIT 3,A (R309). -/
def execBit3A (s : State) : Result := .next (cbBit 3 (.reg .a) s)

/-- BIT 4,B (R309). -/
def execBit4B (s : State) : Result := .next (cbBit 4 (.reg .b) s)

/-- BIT 4,C (R309). -/
def execBit4C (s : State) : Result := .next (cbBit 4 (.reg .c) s)

/-- BIT 4,D (R309). -/
def execBit4D (s : State) : Result := .next (cbBit 4 (.reg .d) s)

/-- BIT 4,E (R309). -/
def execBit4E (s : State) : Result := .next (cbBit 4 (.reg .e) s)

/-- BIT 4,H (R309). -/
def execBit4H (s : State) : Result := .next (cbBit 4 (.reg .h) s)

/-- BIT 4,L (R309). -/
def execBit4L (s : State) : Result := .next (cbBit 4 (.reg .l) s)

/-- BIT 4,(HL) (R309). -/
def execBit4IndHl (s : State) : Result := .next (cbBit 4 .hlInd s)

/-- BIT 4,A (R309). -/
def execBit4A (s : State) : Result := .next (cbBit 4 (.reg .a) s)

/-- BIT 5,B (R309). -/
def execBit5B (s : State) : Result := .next (cbBit 5 (.reg .b) s)

/-- BIT 5,C (R309). -/
def execBit5C (s : State) : Result := .next (cbBit 5 (.reg .c) s)

/-- BIT 5,D (R309). -/
def execBit5D (s : State) : Result := .next (cbBit 5 (.reg .d) s)

/-- BIT 5,E (R309). -/
def execBit5E (s : State) : Result := .next (cbBit 5 (.reg .e) s)

/-- BIT 5,H (R309). -/
def execBit5H (s : State) : Result := .next (cbBit 5 (.reg .h) s)

/-- BIT 5,L (R309). -/
def execBit5L (s : State) : Result := .next (cbBit 5 (.reg .l) s)

/-- BIT 5,(HL) (R309). -/
def execBit5IndHl (s : State) : Result := .next (cbBit 5 .hlInd s)

/-- BIT 5,A (R309). -/
def execBit5A (s : State) : Result := .next (cbBit 5 (.reg .a) s)

/-- BIT 6,B (R309). -/
def execBit6B (s : State) : Result := .next (cbBit 6 (.reg .b) s)

/-- BIT 6,C (R309). -/
def execBit6C (s : State) : Result := .next (cbBit 6 (.reg .c) s)

/-- BIT 6,D (R309). -/
def execBit6D (s : State) : Result := .next (cbBit 6 (.reg .d) s)

/-- BIT 6,E (R309). -/
def execBit6E (s : State) : Result := .next (cbBit 6 (.reg .e) s)

/-- BIT 6,H (R309). -/
def execBit6H (s : State) : Result := .next (cbBit 6 (.reg .h) s)

/-- BIT 6,L (R309). -/
def execBit6L (s : State) : Result := .next (cbBit 6 (.reg .l) s)

/-- BIT 6,(HL) (R309). -/
def execBit6IndHl (s : State) : Result := .next (cbBit 6 .hlInd s)

/-- BIT 6,A (R309). -/
def execBit6A (s : State) : Result := .next (cbBit 6 (.reg .a) s)

/-- BIT 7,B (R309). -/
def execBit7B (s : State) : Result := .next (cbBit 7 (.reg .b) s)

/-- BIT 7,C (R309). -/
def execBit7C (s : State) : Result := .next (cbBit 7 (.reg .c) s)

/-- BIT 7,D (R309). -/
def execBit7D (s : State) : Result := .next (cbBit 7 (.reg .d) s)

/-- BIT 7,E (R309). -/
def execBit7E (s : State) : Result := .next (cbBit 7 (.reg .e) s)

/-- BIT 7,H (R309). -/
def execBit7H (s : State) : Result := .next (cbBit 7 (.reg .h) s)

/-- BIT 7,L (R309). -/
def execBit7L (s : State) : Result := .next (cbBit 7 (.reg .l) s)

/-- BIT 7,(HL) (R309). -/
def execBit7IndHl (s : State) : Result := .next (cbBit 7 .hlInd s)

/-- BIT 7,A (R309). -/
def execBit7A (s : State) : Result := .next (cbBit 7 (.reg .a) s)

/-- RES 0,B (R310). -/
def execRes0B (s : State) : Result := .next (cbRes 0 (.reg .b) s)

/-- RES 0,C (R310). -/
def execRes0C (s : State) : Result := .next (cbRes 0 (.reg .c) s)

/-- RES 0,D (R310). -/
def execRes0D (s : State) : Result := .next (cbRes 0 (.reg .d) s)

/-- RES 0,E (R310). -/
def execRes0E (s : State) : Result := .next (cbRes 0 (.reg .e) s)

/-- RES 0,H (R310). -/
def execRes0H (s : State) : Result := .next (cbRes 0 (.reg .h) s)

/-- RES 0,L (R310). -/
def execRes0L (s : State) : Result := .next (cbRes 0 (.reg .l) s)

/-- RES 0,(HL) (R310). -/
def execRes0IndHl (s : State) : Result := .next (cbRes 0 .hlInd s)

/-- RES 0,A (R310). -/
def execRes0A (s : State) : Result := .next (cbRes 0 (.reg .a) s)

/-- RES 1,B (R310). -/
def execRes1B (s : State) : Result := .next (cbRes 1 (.reg .b) s)

/-- RES 1,C (R310). -/
def execRes1C (s : State) : Result := .next (cbRes 1 (.reg .c) s)

/-- RES 1,D (R310). -/
def execRes1D (s : State) : Result := .next (cbRes 1 (.reg .d) s)

/-- RES 1,E (R310). -/
def execRes1E (s : State) : Result := .next (cbRes 1 (.reg .e) s)

/-- RES 1,H (R310). -/
def execRes1H (s : State) : Result := .next (cbRes 1 (.reg .h) s)

/-- RES 1,L (R310). -/
def execRes1L (s : State) : Result := .next (cbRes 1 (.reg .l) s)

/-- RES 1,(HL) (R310). -/
def execRes1IndHl (s : State) : Result := .next (cbRes 1 .hlInd s)

/-- RES 1,A (R310). -/
def execRes1A (s : State) : Result := .next (cbRes 1 (.reg .a) s)

/-- RES 2,B (R310). -/
def execRes2B (s : State) : Result := .next (cbRes 2 (.reg .b) s)

/-- RES 2,C (R310). -/
def execRes2C (s : State) : Result := .next (cbRes 2 (.reg .c) s)

/-- RES 2,D (R310). -/
def execRes2D (s : State) : Result := .next (cbRes 2 (.reg .d) s)

/-- RES 2,E (R310). -/
def execRes2E (s : State) : Result := .next (cbRes 2 (.reg .e) s)

/-- RES 2,H (R310). -/
def execRes2H (s : State) : Result := .next (cbRes 2 (.reg .h) s)

/-- RES 2,L (R310). -/
def execRes2L (s : State) : Result := .next (cbRes 2 (.reg .l) s)

/-- RES 2,(HL) (R310). -/
def execRes2IndHl (s : State) : Result := .next (cbRes 2 .hlInd s)

/-- RES 2,A (R310). -/
def execRes2A (s : State) : Result := .next (cbRes 2 (.reg .a) s)

/-- RES 3,B (R310). -/
def execRes3B (s : State) : Result := .next (cbRes 3 (.reg .b) s)

/-- RES 3,C (R310). -/
def execRes3C (s : State) : Result := .next (cbRes 3 (.reg .c) s)

/-- RES 3,D (R310). -/
def execRes3D (s : State) : Result := .next (cbRes 3 (.reg .d) s)

/-- RES 3,E (R310). -/
def execRes3E (s : State) : Result := .next (cbRes 3 (.reg .e) s)

/-- RES 3,H (R310). -/
def execRes3H (s : State) : Result := .next (cbRes 3 (.reg .h) s)

/-- RES 3,L (R310). -/
def execRes3L (s : State) : Result := .next (cbRes 3 (.reg .l) s)

/-- RES 3,(HL) (R310). -/
def execRes3IndHl (s : State) : Result := .next (cbRes 3 .hlInd s)

/-- RES 3,A (R310). -/
def execRes3A (s : State) : Result := .next (cbRes 3 (.reg .a) s)

/-- RES 4,B (R310). -/
def execRes4B (s : State) : Result := .next (cbRes 4 (.reg .b) s)

/-- RES 4,C (R310). -/
def execRes4C (s : State) : Result := .next (cbRes 4 (.reg .c) s)

/-- RES 4,D (R310). -/
def execRes4D (s : State) : Result := .next (cbRes 4 (.reg .d) s)

/-- RES 4,E (R310). -/
def execRes4E (s : State) : Result := .next (cbRes 4 (.reg .e) s)

/-- RES 4,H (R310). -/
def execRes4H (s : State) : Result := .next (cbRes 4 (.reg .h) s)

/-- RES 4,L (R310). -/
def execRes4L (s : State) : Result := .next (cbRes 4 (.reg .l) s)

/-- RES 4,(HL) (R310). -/
def execRes4IndHl (s : State) : Result := .next (cbRes 4 .hlInd s)

/-- RES 4,A (R310). -/
def execRes4A (s : State) : Result := .next (cbRes 4 (.reg .a) s)

/-- RES 5,B (R310). -/
def execRes5B (s : State) : Result := .next (cbRes 5 (.reg .b) s)

/-- RES 5,C (R310). -/
def execRes5C (s : State) : Result := .next (cbRes 5 (.reg .c) s)

/-- RES 5,D (R310). -/
def execRes5D (s : State) : Result := .next (cbRes 5 (.reg .d) s)

/-- RES 5,E (R310). -/
def execRes5E (s : State) : Result := .next (cbRes 5 (.reg .e) s)

/-- RES 5,H (R310). -/
def execRes5H (s : State) : Result := .next (cbRes 5 (.reg .h) s)

/-- RES 5,L (R310). -/
def execRes5L (s : State) : Result := .next (cbRes 5 (.reg .l) s)

/-- RES 5,(HL) (R310). -/
def execRes5IndHl (s : State) : Result := .next (cbRes 5 .hlInd s)

/-- RES 5,A (R310). -/
def execRes5A (s : State) : Result := .next (cbRes 5 (.reg .a) s)

/-- RES 6,B (R310). -/
def execRes6B (s : State) : Result := .next (cbRes 6 (.reg .b) s)

/-- RES 6,C (R310). -/
def execRes6C (s : State) : Result := .next (cbRes 6 (.reg .c) s)

/-- RES 6,D (R310). -/
def execRes6D (s : State) : Result := .next (cbRes 6 (.reg .d) s)

/-- RES 6,E (R310). -/
def execRes6E (s : State) : Result := .next (cbRes 6 (.reg .e) s)

/-- RES 6,H (R310). -/
def execRes6H (s : State) : Result := .next (cbRes 6 (.reg .h) s)

/-- RES 6,L (R310). -/
def execRes6L (s : State) : Result := .next (cbRes 6 (.reg .l) s)

/-- RES 6,(HL) (R310). -/
def execRes6IndHl (s : State) : Result := .next (cbRes 6 .hlInd s)

/-- RES 6,A (R310). -/
def execRes6A (s : State) : Result := .next (cbRes 6 (.reg .a) s)

/-- RES 7,B (R310). -/
def execRes7B (s : State) : Result := .next (cbRes 7 (.reg .b) s)

/-- RES 7,C (R310). -/
def execRes7C (s : State) : Result := .next (cbRes 7 (.reg .c) s)

/-- RES 7,D (R310). -/
def execRes7D (s : State) : Result := .next (cbRes 7 (.reg .d) s)

/-- RES 7,E (R310). -/
def execRes7E (s : State) : Result := .next (cbRes 7 (.reg .e) s)

/-- RES 7,H (R310). -/
def execRes7H (s : State) : Result := .next (cbRes 7 (.reg .h) s)

/-- RES 7,L (R310). -/
def execRes7L (s : State) : Result := .next (cbRes 7 (.reg .l) s)

/-- RES 7,(HL) (R310). -/
def execRes7IndHl (s : State) : Result := .next (cbRes 7 .hlInd s)

/-- RES 7,A (R310). -/
def execRes7A (s : State) : Result := .next (cbRes 7 (.reg .a) s)

/-- SET 0,B (R311). -/
def execSet0B (s : State) : Result := .next (cbSet 0 (.reg .b) s)

/-- SET 0,C (R311). -/
def execSet0C (s : State) : Result := .next (cbSet 0 (.reg .c) s)

/-- SET 0,D (R311). -/
def execSet0D (s : State) : Result := .next (cbSet 0 (.reg .d) s)

/-- SET 0,E (R311). -/
def execSet0E (s : State) : Result := .next (cbSet 0 (.reg .e) s)

/-- SET 0,H (R311). -/
def execSet0H (s : State) : Result := .next (cbSet 0 (.reg .h) s)

/-- SET 0,L (R311). -/
def execSet0L (s : State) : Result := .next (cbSet 0 (.reg .l) s)

/-- SET 0,(HL) (R311). -/
def execSet0IndHl (s : State) : Result := .next (cbSet 0 .hlInd s)

/-- SET 0,A (R311). -/
def execSet0A (s : State) : Result := .next (cbSet 0 (.reg .a) s)

/-- SET 1,B (R311). -/
def execSet1B (s : State) : Result := .next (cbSet 1 (.reg .b) s)

/-- SET 1,C (R311). -/
def execSet1C (s : State) : Result := .next (cbSet 1 (.reg .c) s)

/-- SET 1,D (R311). -/
def execSet1D (s : State) : Result := .next (cbSet 1 (.reg .d) s)

/-- SET 1,E (R311). -/
def execSet1E (s : State) : Result := .next (cbSet 1 (.reg .e) s)

/-- SET 1,H (R311). -/
def execSet1H (s : State) : Result := .next (cbSet 1 (.reg .h) s)

/-- SET 1,L (R311). -/
def execSet1L (s : State) : Result := .next (cbSet 1 (.reg .l) s)

/-- SET 1,(HL) (R311). -/
def execSet1IndHl (s : State) : Result := .next (cbSet 1 .hlInd s)

/-- SET 1,A (R311). -/
def execSet1A (s : State) : Result := .next (cbSet 1 (.reg .a) s)

/-- SET 2,B (R311). -/
def execSet2B (s : State) : Result := .next (cbSet 2 (.reg .b) s)

/-- SET 2,C (R311). -/
def execSet2C (s : State) : Result := .next (cbSet 2 (.reg .c) s)

/-- SET 2,D (R311). -/
def execSet2D (s : State) : Result := .next (cbSet 2 (.reg .d) s)

/-- SET 2,E (R311). -/
def execSet2E (s : State) : Result := .next (cbSet 2 (.reg .e) s)

/-- SET 2,H (R311). -/
def execSet2H (s : State) : Result := .next (cbSet 2 (.reg .h) s)

/-- SET 2,L (R311). -/
def execSet2L (s : State) : Result := .next (cbSet 2 (.reg .l) s)

/-- SET 2,(HL) (R311). -/
def execSet2IndHl (s : State) : Result := .next (cbSet 2 .hlInd s)

/-- SET 2,A (R311). -/
def execSet2A (s : State) : Result := .next (cbSet 2 (.reg .a) s)

/-- SET 3,B (R311). -/
def execSet3B (s : State) : Result := .next (cbSet 3 (.reg .b) s)

/-- SET 3,C (R311). -/
def execSet3C (s : State) : Result := .next (cbSet 3 (.reg .c) s)

/-- SET 3,D (R311). -/
def execSet3D (s : State) : Result := .next (cbSet 3 (.reg .d) s)

/-- SET 3,E (R311). -/
def execSet3E (s : State) : Result := .next (cbSet 3 (.reg .e) s)

/-- SET 3,H (R311). -/
def execSet3H (s : State) : Result := .next (cbSet 3 (.reg .h) s)

/-- SET 3,L (R311). -/
def execSet3L (s : State) : Result := .next (cbSet 3 (.reg .l) s)

/-- SET 3,(HL) (R311). -/
def execSet3IndHl (s : State) : Result := .next (cbSet 3 .hlInd s)

/-- SET 3,A (R311). -/
def execSet3A (s : State) : Result := .next (cbSet 3 (.reg .a) s)

/-- SET 4,B (R311). -/
def execSet4B (s : State) : Result := .next (cbSet 4 (.reg .b) s)

/-- SET 4,C (R311). -/
def execSet4C (s : State) : Result := .next (cbSet 4 (.reg .c) s)

/-- SET 4,D (R311). -/
def execSet4D (s : State) : Result := .next (cbSet 4 (.reg .d) s)

/-- SET 4,E (R311). -/
def execSet4E (s : State) : Result := .next (cbSet 4 (.reg .e) s)

/-- SET 4,H (R311). -/
def execSet4H (s : State) : Result := .next (cbSet 4 (.reg .h) s)

/-- SET 4,L (R311). -/
def execSet4L (s : State) : Result := .next (cbSet 4 (.reg .l) s)

/-- SET 4,(HL) (R311). -/
def execSet4IndHl (s : State) : Result := .next (cbSet 4 .hlInd s)

/-- SET 4,A (R311). -/
def execSet4A (s : State) : Result := .next (cbSet 4 (.reg .a) s)

/-- SET 5,B (R311). -/
def execSet5B (s : State) : Result := .next (cbSet 5 (.reg .b) s)

/-- SET 5,C (R311). -/
def execSet5C (s : State) : Result := .next (cbSet 5 (.reg .c) s)

/-- SET 5,D (R311). -/
def execSet5D (s : State) : Result := .next (cbSet 5 (.reg .d) s)

/-- SET 5,E (R311). -/
def execSet5E (s : State) : Result := .next (cbSet 5 (.reg .e) s)

/-- SET 5,H (R311). -/
def execSet5H (s : State) : Result := .next (cbSet 5 (.reg .h) s)

/-- SET 5,L (R311). -/
def execSet5L (s : State) : Result := .next (cbSet 5 (.reg .l) s)

/-- SET 5,(HL) (R311). -/
def execSet5IndHl (s : State) : Result := .next (cbSet 5 .hlInd s)

/-- SET 5,A (R311). -/
def execSet5A (s : State) : Result := .next (cbSet 5 (.reg .a) s)

/-- SET 6,B (R311). -/
def execSet6B (s : State) : Result := .next (cbSet 6 (.reg .b) s)

/-- SET 6,C (R311). -/
def execSet6C (s : State) : Result := .next (cbSet 6 (.reg .c) s)

/-- SET 6,D (R311). -/
def execSet6D (s : State) : Result := .next (cbSet 6 (.reg .d) s)

/-- SET 6,E (R311). -/
def execSet6E (s : State) : Result := .next (cbSet 6 (.reg .e) s)

/-- SET 6,H (R311). -/
def execSet6H (s : State) : Result := .next (cbSet 6 (.reg .h) s)

/-- SET 6,L (R311). -/
def execSet6L (s : State) : Result := .next (cbSet 6 (.reg .l) s)

/-- SET 6,(HL) (R311). -/
def execSet6IndHl (s : State) : Result := .next (cbSet 6 .hlInd s)

/-- SET 6,A (R311). -/
def execSet6A (s : State) : Result := .next (cbSet 6 (.reg .a) s)

/-- SET 7,B (R311). -/
def execSet7B (s : State) : Result := .next (cbSet 7 (.reg .b) s)

/-- SET 7,C (R311). -/
def execSet7C (s : State) : Result := .next (cbSet 7 (.reg .c) s)

/-- SET 7,D (R311). -/
def execSet7D (s : State) : Result := .next (cbSet 7 (.reg .d) s)

/-- SET 7,E (R311). -/
def execSet7E (s : State) : Result := .next (cbSet 7 (.reg .e) s)

/-- SET 7,H (R311). -/
def execSet7H (s : State) : Result := .next (cbSet 7 (.reg .h) s)

/-- SET 7,L (R311). -/
def execSet7L (s : State) : Result := .next (cbSet 7 (.reg .l) s)

/-- SET 7,(HL) (R311). -/
def execSet7IndHl (s : State) : Result := .next (cbSet 7 .hlInd s)

/-- SET 7,A (R311). -/
def execSet7A (s : State) : Result := .next (cbSet 7 (.reg .a) s)

end Sys2Proof.Machine
end

