-- ==== Sys2Proof/Machine/Control.lean ====
section
/-! DEFINITION. The control-flow instructions (45_control.md R240 to R251). PC is already the address after the
instruction. No one of them changes F; the operand bytes have been fetched whether or not the transfer is taken (R250). -/

namespace Sys2Proof.Machine

/-- `PC <- t` (R240, R242). -/
def jump (t : Word) (s : State) : State := { s with pc := t }

/-- R241. -/
def jumpIf (taken : Bool) (t : Word) (s : State) : State := if taken then jump t s else s

/-- R243: relative to the address after the operand. -/
def jumpRel (e : Byte) (s : State) : State := jump (s.pc + sext16 e) s

/-- R244. -/
def jumpRelIf (taken : Bool) (e : Byte) (s : State) : State := if taken then jumpRel e s else s

/-- `Push16(PC); PC <- t` (R245, R251). -/
def call (t : Word) (s : State) : State := jump t (push16 s.pc s)

/-- R246: the push belongs to the transfer (C13). -/
def callIf (taken : Bool) (t : Word) (s : State) : State := if taken then call t s else s

/-- `PC <- Pop16()` (R247). -/
def ret (s : State) : State :=
  let (t, s) := pop16 s
  jump t s

/-- R248: the pop belongs to the transfer (C13). -/
def retIf (taken : Bool) (s : State) : State := if taken then ret s else s

/-- JR e8 (R243). -/
def execJrE8 (e8 : Byte) (s : State) : Result := .next (jumpRel e8 s)

/-- JR NZ,e8 (R244). -/
def execJrNzE8 (e8 : Byte) (s : State) : Result := .next (jumpRelIf (s.cond .nz) e8 s)

/-- JR Z,e8 (R244). -/
def execJrZE8 (e8 : Byte) (s : State) : Result := .next (jumpRelIf (s.cond .z) e8 s)

/-- JR NC,e8 (R244). -/
def execJrNcE8 (e8 : Byte) (s : State) : Result := .next (jumpRelIf (s.cond .nc) e8 s)

/-- JR C,e8 (R244). -/
def execJrCE8 (e8 : Byte) (s : State) : Result := .next (jumpRelIf (s.cond .c) e8 s)

/-- RET NZ (R248). -/
def execRetNz (s : State) : Result := .next (retIf (s.cond .nz) s)

/-- JP NZ,a16 (R241). -/
def execJpNzA16 (a16 : Word) (s : State) : Result := .next (jumpIf (s.cond .nz) a16 s)

/-- JP a16 (R240). -/
def execJpA16 (a16 : Word) (s : State) : Result := .next (jump a16 s)

/-- CALL NZ,a16 (R246). -/
def execCallNzA16 (a16 : Word) (s : State) : Result := .next (callIf (s.cond .nz) a16 s)

/-- RST 00H (R251). -/
def execRst00 (s : State) : Result := .next (call 0x0000 s)

/-- RET Z (R248). -/
def execRetZ (s : State) : Result := .next (retIf (s.cond .z) s)

/-- RET (R247). -/
def execRet (s : State) : Result := .next (ret s)

/-- JP Z,a16 (R241). -/
def execJpZA16 (a16 : Word) (s : State) : Result := .next (jumpIf (s.cond .z) a16 s)

/-- CALL Z,a16 (R246). -/
def execCallZA16 (a16 : Word) (s : State) : Result := .next (callIf (s.cond .z) a16 s)

/-- CALL a16 (R245). -/
def execCallA16 (a16 : Word) (s : State) : Result := .next (call a16 s)

/-- RST 08H (R251). -/
def execRst08 (s : State) : Result := .next (call 0x0008 s)

/-- RET NC (R248). -/
def execRetNc (s : State) : Result := .next (retIf (s.cond .nc) s)

/-- JP NC,a16 (R241). -/
def execJpNcA16 (a16 : Word) (s : State) : Result := .next (jumpIf (s.cond .nc) a16 s)

/-- CALL NC,a16 (R246). -/
def execCallNcA16 (a16 : Word) (s : State) : Result := .next (callIf (s.cond .nc) a16 s)

/-- RST 10H (R251). -/
def execRst10 (s : State) : Result := .next (call 0x0010 s)

/-- RET C (R248). -/
def execRetC (s : State) : Result := .next (retIf (s.cond .c) s)

/-- RETI (R249). -/
def execReti (s : State) : Result := .next ({ ret s with ime := true })

/-- JP C,a16 (R241). -/
def execJpCA16 (a16 : Word) (s : State) : Result := .next (jumpIf (s.cond .c) a16 s)

/-- CALL C,a16 (R246). -/
def execCallCA16 (a16 : Word) (s : State) : Result := .next (callIf (s.cond .c) a16 s)

/-- RST 18H (R251). -/
def execRst18 (s : State) : Result := .next (call 0x0018 s)

/-- RST 20H (R251). -/
def execRst20 (s : State) : Result := .next (call 0x0020 s)

/-- JP HL (R242). -/
def execJpHl (s : State) : Result := .next (jump s.hl s)

/-- RST 28H (R251). -/
def execRst28 (s : State) : Result := .next (call 0x0028 s)

/-- RST 30H (R251). -/
def execRst30 (s : State) : Result := .next (call 0x0030 s)

/-- RST 38H (R251). -/
def execRst38 (s : State) : Result := .next (call 0x0038 s)

end Sys2Proof.Machine
end

