-- ==== Sys2Proof/Machine/IncDec.lean ====
section
/-! DEFINITION. The increment and decrement instructions (44_incdec.md R220 to R225). The (HL) forms read first and write
last; the flags are written even when the write is dropped (R221). -/

namespace Sys2Proof.Machine

/-- R220, R221. -/
def incOperand (o : Operand8) (s : State) : State :=
  let (v, s) := read8 o s
  let (r, fl) := inc8 v s.flags.c
  write8 o r (s.setFlags fl)

/-- R222, R223. -/
def decOperand (o : Operand8) (s : State) : State :=
  let (v, s) := read8 o s
  let (r, fl) := dec8 v s.flags.c
  write8 o r (s.setFlags fl)

/-- R224: no flag. -/
def incPair (p : Pair) (s : State) : State := s.setPair p (inc16 (s.pair p))

/-- R225: no flag. -/
def decPair (p : Pair) (s : State) : State := s.setPair p (dec16 (s.pair p))

/-- INC BC (R224). -/
def execIncBc (s : State) : Result := .next (incPair .bc s)

/-- INC B (R220). -/
def execIncB (s : State) : Result := .next (incOperand (.reg .b) s)

/-- DEC B (R222). -/
def execDecB (s : State) : Result := .next (decOperand (.reg .b) s)

/-- DEC BC (R225). -/
def execDecBc (s : State) : Result := .next (decPair .bc s)

/-- INC C (R220). -/
def execIncC (s : State) : Result := .next (incOperand (.reg .c) s)

/-- DEC C (R222). -/
def execDecC (s : State) : Result := .next (decOperand (.reg .c) s)

/-- INC DE (R224). -/
def execIncDe (s : State) : Result := .next (incPair .de s)

/-- INC D (R220). -/
def execIncD (s : State) : Result := .next (incOperand (.reg .d) s)

/-- DEC D (R222). -/
def execDecD (s : State) : Result := .next (decOperand (.reg .d) s)

/-- DEC DE (R225). -/
def execDecDe (s : State) : Result := .next (decPair .de s)

/-- INC E (R220). -/
def execIncE (s : State) : Result := .next (incOperand (.reg .e) s)

/-- DEC E (R222). -/
def execDecE (s : State) : Result := .next (decOperand (.reg .e) s)

/-- INC HL (R224). -/
def execIncHl (s : State) : Result := .next (incPair .hl s)

/-- INC H (R220). -/
def execIncH (s : State) : Result := .next (incOperand (.reg .h) s)

/-- DEC H (R222). -/
def execDecH (s : State) : Result := .next (decOperand (.reg .h) s)

/-- DEC HL (R225). -/
def execDecHl (s : State) : Result := .next (decPair .hl s)

/-- INC L (R220). -/
def execIncL (s : State) : Result := .next (incOperand (.reg .l) s)

/-- DEC L (R222). -/
def execDecL (s : State) : Result := .next (decOperand (.reg .l) s)

/-- INC SP (R224). -/
def execIncSp (s : State) : Result := .next (incPair .sp s)

/-- INC (HL) (R221). -/
def execIncIndHl (s : State) : Result := .next (incOperand .hlInd s)

/-- DEC (HL) (R223). -/
def execDecIndHl (s : State) : Result := .next (decOperand .hlInd s)

/-- DEC SP (R225). -/
def execDecSp (s : State) : Result := .next (decPair .sp s)

/-- INC A (R220). -/
def execIncA (s : State) : Result := .next (incOperand (.reg .a) s)

/-- DEC A (R222). -/
def execDecA (s : State) : Result := .next (decOperand (.reg .a) s)

end Sys2Proof.Machine
end

