-- ==== Sys2Proof/Machine/Load.lean ====
section
/-! DEFINITION. The load instructions (41_load.md R150 to R172). The opcode and the operand bytes have been fetched; a
register form makes no further access. No load changes F but LD HL,SP+e8. -/

namespace Sys2Proof.Machine

/-- R150 to R152: read the source operand, then write the destination. -/
def move (dst src : Operand8) (s : State) : State :=
  let (v, s) := read8 src s
  write8 dst v s

/-- `x[A] <- MemRead(a, 1)` (R155, R156, R159, R161, R163). -/
def loadA (a : Word) (s : State) : State :=
  let (v, s) := memRead a s
  { s with a := v }

/-- `MemWrite(a, 1, x[A])` (R157, R158, R160, R162, R164). -/
def storeA (a : Word) (s : State) : State := memWrite a s.a s

/-- R165, R166: store A at HL, then step HL, whether or not the store was dropped (D39). -/
def storeAStep (step : Word → Word) (s : State) : State :=
  (memWrite s.hl s.a s).setHl (step s.hl)

/-- R167, R168: load A from HL, then step HL. -/
def loadAStep (step : Word → Word) (s : State) : State :=
  (loadA s.hl s).setHl (step s.hl)

/-- R170: SP's low byte at a16, its high byte at a16 + 1, each under its own region policy (R64). -/
def storeSp (a : Word) (s : State) : State :=
  memWrite (a + 1) (hi8 s.sp) (memWrite a (lo8 s.sp) s)

/-- R172: HL <- SP + e8 with the flags of `addsp`; SP is unchanged. -/
def loadHlSp (e : Byte) (s : State) : State :=
  let (r, fl) := addsp s.sp e
  (s.setHl r).setFlags fl

/-- LD BC,d16 (R169). -/
def execLdBcD16 (d16 : Word) (s : State) : Result := .next (s.setPair .bc d16)

/-- LD (BC),A (R157). -/
def execLdIndBcA (s : State) : Result := .next (storeA s.bc s)

/-- LD B,d8 (R153). -/
def execLdBD8 (d8 : Byte) (s : State) : Result := .next (write8 (.reg .b) d8 s)

/-- LD (a16),SP (R170). -/
def execLdIndA16Sp (a16 : Word) (s : State) : Result := .next (storeSp a16 s)

/-- LD A,(BC) (R155). -/
def execLdAIndBc (s : State) : Result := .next (loadA s.bc s)

/-- LD C,d8 (R153). -/
def execLdCD8 (d8 : Byte) (s : State) : Result := .next (write8 (.reg .c) d8 s)

/-- LD DE,d16 (R169). -/
def execLdDeD16 (d16 : Word) (s : State) : Result := .next (s.setPair .de d16)

/-- LD (DE),A (R158). -/
def execLdIndDeA (s : State) : Result := .next (storeA s.de s)

/-- LD D,d8 (R153). -/
def execLdDD8 (d8 : Byte) (s : State) : Result := .next (write8 (.reg .d) d8 s)

/-- LD A,(DE) (R156). -/
def execLdAIndDe (s : State) : Result := .next (loadA s.de s)

/-- LD E,d8 (R153). -/
def execLdED8 (d8 : Byte) (s : State) : Result := .next (write8 (.reg .e) d8 s)

/-- LD HL,d16 (R169). -/
def execLdHlD16 (d16 : Word) (s : State) : Result := .next (s.setPair .hl d16)

/-- LD (HL+),A (R165). -/
def execLdIndHlIncA (s : State) : Result := .next (storeAStep inc16 s)

/-- LD H,d8 (R153). -/
def execLdHD8 (d8 : Byte) (s : State) : Result := .next (write8 (.reg .h) d8 s)

/-- LD A,(HL+) (R167). -/
def execLdAIndHlInc (s : State) : Result := .next (loadAStep inc16 s)

/-- LD L,d8 (R153). -/
def execLdLD8 (d8 : Byte) (s : State) : Result := .next (write8 (.reg .l) d8 s)

/-- LD SP,d16 (R169). -/
def execLdSpD16 (d16 : Word) (s : State) : Result := .next (s.setPair .sp d16)

/-- LD (HL-),A (R166). -/
def execLdIndHlDecA (s : State) : Result := .next (storeAStep dec16 s)

/-- LD (HL),d8 (R154). -/
def execLdIndHlD8 (d8 : Byte) (s : State) : Result := .next (write8 .hlInd d8 s)

/-- LD A,(HL-) (R168). -/
def execLdAIndHlDec (s : State) : Result := .next (loadAStep dec16 s)

/-- LD A,d8 (R153). -/
def execLdAD8 (d8 : Byte) (s : State) : Result := .next (write8 (.reg .a) d8 s)

/-- LD B,B (R150). -/
def execLdBB (s : State) : Result := .next (move (.reg .b) (.reg .b) s)

/-- LD B,C (R150). -/
def execLdBC (s : State) : Result := .next (move (.reg .b) (.reg .c) s)

/-- LD B,D (R150). -/
def execLdBD (s : State) : Result := .next (move (.reg .b) (.reg .d) s)

/-- LD B,E (R150). -/
def execLdBE (s : State) : Result := .next (move (.reg .b) (.reg .e) s)

/-- LD B,H (R150). -/
def execLdBH (s : State) : Result := .next (move (.reg .b) (.reg .h) s)

/-- LD B,L (R150). -/
def execLdBL (s : State) : Result := .next (move (.reg .b) (.reg .l) s)

/-- LD B,(HL) (R151). -/
def execLdBIndHl (s : State) : Result := .next (move (.reg .b) .hlInd s)

/-- LD B,A (R150). -/
def execLdBA (s : State) : Result := .next (move (.reg .b) (.reg .a) s)

/-- LD C,B (R150). -/
def execLdCB (s : State) : Result := .next (move (.reg .c) (.reg .b) s)

/-- LD C,C (R150). -/
def execLdCC (s : State) : Result := .next (move (.reg .c) (.reg .c) s)

/-- LD C,D (R150). -/
def execLdCD (s : State) : Result := .next (move (.reg .c) (.reg .d) s)

/-- LD C,E (R150). -/
def execLdCE (s : State) : Result := .next (move (.reg .c) (.reg .e) s)

/-- LD C,H (R150). -/
def execLdCH (s : State) : Result := .next (move (.reg .c) (.reg .h) s)

/-- LD C,L (R150). -/
def execLdCL (s : State) : Result := .next (move (.reg .c) (.reg .l) s)

/-- LD C,(HL) (R151). -/
def execLdCIndHl (s : State) : Result := .next (move (.reg .c) .hlInd s)

/-- LD C,A (R150). -/
def execLdCA (s : State) : Result := .next (move (.reg .c) (.reg .a) s)

/-- LD D,B (R150). -/
def execLdDB (s : State) : Result := .next (move (.reg .d) (.reg .b) s)

/-- LD D,C (R150). -/
def execLdDC (s : State) : Result := .next (move (.reg .d) (.reg .c) s)

/-- LD D,D (R150). -/
def execLdDD (s : State) : Result := .next (move (.reg .d) (.reg .d) s)

/-- LD D,E (R150). -/
def execLdDE (s : State) : Result := .next (move (.reg .d) (.reg .e) s)

/-- LD D,H (R150). -/
def execLdDH (s : State) : Result := .next (move (.reg .d) (.reg .h) s)

/-- LD D,L (R150). -/
def execLdDL (s : State) : Result := .next (move (.reg .d) (.reg .l) s)

/-- LD D,(HL) (R151). -/
def execLdDIndHl (s : State) : Result := .next (move (.reg .d) .hlInd s)

/-- LD D,A (R150). -/
def execLdDA (s : State) : Result := .next (move (.reg .d) (.reg .a) s)

/-- LD E,B (R150). -/
def execLdEB (s : State) : Result := .next (move (.reg .e) (.reg .b) s)

/-- LD E,C (R150). -/
def execLdEC (s : State) : Result := .next (move (.reg .e) (.reg .c) s)

/-- LD E,D (R150). -/
def execLdED (s : State) : Result := .next (move (.reg .e) (.reg .d) s)

/-- LD E,E (R150). -/
def execLdEE (s : State) : Result := .next (move (.reg .e) (.reg .e) s)

/-- LD E,H (R150). -/
def execLdEH (s : State) : Result := .next (move (.reg .e) (.reg .h) s)

/-- LD E,L (R150). -/
def execLdEL (s : State) : Result := .next (move (.reg .e) (.reg .l) s)

/-- LD E,(HL) (R151). -/
def execLdEIndHl (s : State) : Result := .next (move (.reg .e) .hlInd s)

/-- LD E,A (R150). -/
def execLdEA (s : State) : Result := .next (move (.reg .e) (.reg .a) s)

/-- LD H,B (R150). -/
def execLdHB (s : State) : Result := .next (move (.reg .h) (.reg .b) s)

/-- LD H,C (R150). -/
def execLdHC (s : State) : Result := .next (move (.reg .h) (.reg .c) s)

/-- LD H,D (R150). -/
def execLdHD (s : State) : Result := .next (move (.reg .h) (.reg .d) s)

/-- LD H,E (R150). -/
def execLdHE (s : State) : Result := .next (move (.reg .h) (.reg .e) s)

/-- LD H,H (R150). -/
def execLdHH (s : State) : Result := .next (move (.reg .h) (.reg .h) s)

/-- LD H,L (R150). -/
def execLdHL (s : State) : Result := .next (move (.reg .h) (.reg .l) s)

/-- LD H,(HL) (R151). -/
def execLdHIndHl (s : State) : Result := .next (move (.reg .h) .hlInd s)

/-- LD H,A (R150). -/
def execLdHA (s : State) : Result := .next (move (.reg .h) (.reg .a) s)

/-- LD L,B (R150). -/
def execLdLB (s : State) : Result := .next (move (.reg .l) (.reg .b) s)

/-- LD L,C (R150). -/
def execLdLC (s : State) : Result := .next (move (.reg .l) (.reg .c) s)

/-- LD L,D (R150). -/
def execLdLD (s : State) : Result := .next (move (.reg .l) (.reg .d) s)

/-- LD L,E (R150). -/
def execLdLE (s : State) : Result := .next (move (.reg .l) (.reg .e) s)

/-- LD L,H (R150). -/
def execLdLH (s : State) : Result := .next (move (.reg .l) (.reg .h) s)

/-- LD L,L (R150). -/
def execLdLL (s : State) : Result := .next (move (.reg .l) (.reg .l) s)

/-- LD L,(HL) (R151). -/
def execLdLIndHl (s : State) : Result := .next (move (.reg .l) .hlInd s)

/-- LD L,A (R150). -/
def execLdLA (s : State) : Result := .next (move (.reg .l) (.reg .a) s)

/-- LD (HL),B (R152). -/
def execLdIndHlB (s : State) : Result := .next (move .hlInd (.reg .b) s)

/-- LD (HL),C (R152). -/
def execLdIndHlC (s : State) : Result := .next (move .hlInd (.reg .c) s)

/-- LD (HL),D (R152). -/
def execLdIndHlD (s : State) : Result := .next (move .hlInd (.reg .d) s)

/-- LD (HL),E (R152). -/
def execLdIndHlE (s : State) : Result := .next (move .hlInd (.reg .e) s)

/-- LD (HL),H (R152). -/
def execLdIndHlH (s : State) : Result := .next (move .hlInd (.reg .h) s)

/-- LD (HL),L (R152). -/
def execLdIndHlL (s : State) : Result := .next (move .hlInd (.reg .l) s)

/-- LD (HL),A (R152). -/
def execLdIndHlA (s : State) : Result := .next (move .hlInd (.reg .a) s)

/-- LD A,B (R150). -/
def execLdAB (s : State) : Result := .next (move (.reg .a) (.reg .b) s)

/-- LD A,C (R150). -/
def execLdAC (s : State) : Result := .next (move (.reg .a) (.reg .c) s)

/-- LD A,D (R150). -/
def execLdAD (s : State) : Result := .next (move (.reg .a) (.reg .d) s)

/-- LD A,E (R150). -/
def execLdAE (s : State) : Result := .next (move (.reg .a) (.reg .e) s)

/-- LD A,H (R150). -/
def execLdAH (s : State) : Result := .next (move (.reg .a) (.reg .h) s)

/-- LD A,L (R150). -/
def execLdAL (s : State) : Result := .next (move (.reg .a) (.reg .l) s)

/-- LD A,(HL) (R151). -/
def execLdAIndHl (s : State) : Result := .next (move (.reg .a) .hlInd s)

/-- LD A,A (R150). -/
def execLdAA (s : State) : Result := .next (move (.reg .a) (.reg .a) s)

/-- LDH (a8),A (R162). -/
def execLdhIndA8A (a8 : Byte) (s : State) : Result := .next (storeA (highPage a8) s)

/-- LD (C),A (R164). -/
def execLdIndCA (s : State) : Result := .next (storeA (highPage s.c) s)

/-- LD (a16),A (R160). -/
def execLdIndA16A (a16 : Word) (s : State) : Result := .next (storeA a16 s)

/-- LDH A,(a8) (R161). -/
def execLdhAIndA8 (a8 : Byte) (s : State) : Result := .next (loadA (highPage a8) s)

/-- LD A,(C) (R163). -/
def execLdAIndC (s : State) : Result := .next (loadA (highPage s.c) s)

/-- LD HL,SP+e8 (R172). -/
def execLdHlSpE8 (e8 : Byte) (s : State) : Result := .next (loadHlSp e8 s)

/-- LD SP,HL (R171). -/
def execLdSpHl (s : State) : Result := .next ({ s with sp := s.hl })

/-- LD A,(a16) (R159). -/
def execLdAIndA16 (a16 : Word) (s : State) : Result := .next (loadA a16 s)

end Sys2Proof.Machine
end

