-- ==== Sys2Proof/Machine/Logic.lean ====
section
/-! DEFINITION. The logic instructions (43_logic.md R200 to R209), over the ALU operation of Arithmetic.lean. -/

namespace Sys2Proof.Machine

/-- R209: complement A; Z and C unchanged, N and H set. -/
def cplA (s : State) : State :=
  { s with a := s.a ^^^ 0xFF }.setFlags { s.flags with n := true, h := true }

/-- CPL (R209). -/
def execCpl (s : State) : Result := .next (cplA s)

/-- AND B (R200). -/
def execAndB (s : State) : Result := .next (aluOperand .and (.reg .b) s)

/-- AND C (R200). -/
def execAndC (s : State) : Result := .next (aluOperand .and (.reg .c) s)

/-- AND D (R200). -/
def execAndD (s : State) : Result := .next (aluOperand .and (.reg .d) s)

/-- AND E (R200). -/
def execAndE (s : State) : Result := .next (aluOperand .and (.reg .e) s)

/-- AND H (R200). -/
def execAndH (s : State) : Result := .next (aluOperand .and (.reg .h) s)

/-- AND L (R200). -/
def execAndL (s : State) : Result := .next (aluOperand .and (.reg .l) s)

/-- AND (HL) (R201). -/
def execAndIndHl (s : State) : Result := .next (aluOperand .and .hlInd s)

/-- AND A (R200). -/
def execAndA (s : State) : Result := .next (aluOperand .and (.reg .a) s)

/-- XOR B (R203). -/
def execXorB (s : State) : Result := .next (aluOperand .xor (.reg .b) s)

/-- XOR C (R203). -/
def execXorC (s : State) : Result := .next (aluOperand .xor (.reg .c) s)

/-- XOR D (R203). -/
def execXorD (s : State) : Result := .next (aluOperand .xor (.reg .d) s)

/-- XOR E (R203). -/
def execXorE (s : State) : Result := .next (aluOperand .xor (.reg .e) s)

/-- XOR H (R203). -/
def execXorH (s : State) : Result := .next (aluOperand .xor (.reg .h) s)

/-- XOR L (R203). -/
def execXorL (s : State) : Result := .next (aluOperand .xor (.reg .l) s)

/-- XOR (HL) (R204). -/
def execXorIndHl (s : State) : Result := .next (aluOperand .xor .hlInd s)

/-- XOR A (R203). -/
def execXorA (s : State) : Result := .next (aluOperand .xor (.reg .a) s)

/-- OR B (R206). -/
def execOrB (s : State) : Result := .next (aluOperand .or (.reg .b) s)

/-- OR C (R206). -/
def execOrC (s : State) : Result := .next (aluOperand .or (.reg .c) s)

/-- OR D (R206). -/
def execOrD (s : State) : Result := .next (aluOperand .or (.reg .d) s)

/-- OR E (R206). -/
def execOrE (s : State) : Result := .next (aluOperand .or (.reg .e) s)

/-- OR H (R206). -/
def execOrH (s : State) : Result := .next (aluOperand .or (.reg .h) s)

/-- OR L (R206). -/
def execOrL (s : State) : Result := .next (aluOperand .or (.reg .l) s)

/-- OR (HL) (R207). -/
def execOrIndHl (s : State) : Result := .next (aluOperand .or .hlInd s)

/-- OR A (R206). -/
def execOrA (s : State) : Result := .next (aluOperand .or (.reg .a) s)

/-- AND d8 (R202). -/
def execAndD8 (d8 : Byte) (s : State) : Result := .next (aluA .and d8 s)

/-- XOR d8 (R205). -/
def execXorD8 (d8 : Byte) (s : State) : Result := .next (aluA .xor d8 s)

/-- OR d8 (R208). -/
def execOrD8 (d8 : Byte) (s : State) : Result := .next (aluA .or d8 s)

end Sys2Proof.Machine
end

