-- ==== Sys2Proof/Machine/Misc.lean ====
section
/-! DEFINITION. The miscellaneous instructions (48_misc.md R290 to R296). -/

namespace Sys2Proof.Machine

/-- What STOP clears (R292): the byte at 0xFFFF by a direct store (no access, no count, no fault), or IME, or both. -/
def stopClear (s : State) : State :=
  match s.params.stopClears with
  | .ieRegister => s.poke 0xFFFF 0x00
  | .ime => { s with ime := false }
  | .both => { s.poke 0xFFFF 0x00 with ime := false }

/-- NOP (R290): the opcode fetch only. -/
def execNop (s : State) : Result := .next s

/-- PC after STOP. The fetch left it just past the pad byte (R105, R28), and there it stays, but for the pad byte at 0xFFFF:
there the fetch leaves 0x0000, and the corner case of R292 says that PC wraps to 0x0001. DESIGN CHOICE: the value is left open
between these two (log 18). -/
def stopWrap (s : State) : State :=
  { s with pc := if s.params.stopLength = .two ∧ s.pc = 0x0000 ∧ s.params.stopPadWrap = .cornerCase then 0x0001 else s.pc }

/-- STOP (R292). -/
def execStop (s : State) : Result := .next (stopWrap (stopClear { s with stopped := true }))

/-- SCF (R295). -/
def execScf (s : State) : Result := .next (s.setFlags { s.flags with n := false, h := false, c := true })

/-- CCF (R296). -/
def execCcf (s : State) : Result := .next (s.setFlags { s.flags with n := false, h := false, c := !s.flags.c })

/-- HALT (R291). -/
def execHalt (s : State) : Result := .next ({ s with halted := true })

/-- DI (R293). -/
def execDi (s : State) : Result := .next ({ s with ime := false })

/-- EI (R294). -/
def execEi (s : State) : Result := .next ({ s with ime := true })

end Sys2Proof.Machine
end

