-- ==== Sys2Proof/Machine/Rotate.lean ====
section
/-! DEFINITION. The accumulator rotates (47_rotate.md R280 to R283); their Z flag is `ACC_ROTATE_Z`'s. -/

namespace Sys2Proof.Machine

/-- R280 to R283. -/
def rotateA (op : ShiftOp) (s : State) : State :=
  let (r, fl) := accRotate s.params.accRotateZ op s.a s.flags.c
  { s with a := r }.setFlags fl

/-- RLCA (R280). -/
def execRlca (s : State) : Result := .next (rotateA .rlc s)

/-- RRCA (R281). -/
def execRrca (s : State) : Result := .next (rotateA .rrc s)

/-- RLA (R282). -/
def execRla (s : State) : Result := .next (rotateA .rl s)

/-- RRA (R283). -/
def execRra (s : State) : Result := .next (rotateA .rr s)

end Sys2Proof.Machine
end

