-- ==== Sys2Proof/Machine/Stack.lean ====
section
/-! DEFINITION. PUSH and POP (46_stack.md R262, R263), over the stack primitives of Ops.lean. -/

namespace Sys2Proof.Machine

/-- R263: the popped word goes to the pair the opcode names. -/
def popPair (p : StackPair) (s : State) : State :=
  let (v, s) := pop16 s
  s.setStackPair p v

/-- POP BC (R263). -/
def execPopBc (s : State) : Result := .next (popPair .bc s)

/-- PUSH BC (R262). -/
def execPushBc (s : State) : Result := .next (push16 (s.stackPair .bc) s)

/-- POP DE (R263). -/
def execPopDe (s : State) : Result := .next (popPair .de s)

/-- PUSH DE (R262). -/
def execPushDe (s : State) : Result := .next (push16 (s.stackPair .de) s)

/-- POP HL (R263). -/
def execPopHl (s : State) : Result := .next (popPair .hl s)

/-- PUSH HL (R262). -/
def execPushHl (s : State) : Result := .next (push16 (s.stackPair .hl) s)

/-- POP AF (R263). -/
def execPopAf (s : State) : Result := .next (popPair .af s)

/-- PUSH AF (R262). -/
def execPushAf (s : State) : Result := .next (push16 (s.stackPair .af) s)

end Sys2Proof.Machine
end

