-- ==== Sys2Proof/Machine/Step.lean ====
section
/-! DEFINITION. One tick of the engine (40_engine.md R100), and how the host places an instruction where the next tick
fetches. Everything they call is in files a later repair may mend. -/

namespace Sys2Proof.Machine

/-- `tick()` (R100 to R102): a no-op in Stopped and Halted; otherwise fetch, decode, execute, and the instruction
boundary. An unmapped opcode byte is DecodeError (R106). -/
def step (s : State) : Host.Outcome State Fault Refusal :=
  if s.stopped || s.halted then .next s
  else
    match fetchInstr s with
    | (.error b, s1) => raiseDecodeError b s.pc s1
    | (.ok i, s1) => retire s (exec i s1)

/-- The host places the bytes of a word of spec/opcode_table.json at PC by raw writes (R62) and the engine is Running, so
that the very next tick fetches and runs that instruction (log 8). -/
def State.withFetchWord (s : State) (nbits w : Nat) : State :=
  { s.placeBytes s.pc (tableBytes nbits w) with halted := false, stopped := false }

end Sys2Proof.Machine
end

