-- ==== Sys2Proof/Safety.lean ====
section
/-! DEFINITION. The terms the statements use: what a safe run keeps, what one CPU write does, how an instruction is fetched,
the table of bus accesses, and when two outcomes agree but for what a collaborator sees. They are written from the rules,
not from the meanings. -/

namespace Sys2Proof.Machine

/-! ## Flags and operands in the words of the rules -/

/-- The byte with Z, N, H, C in bits 7, 6, 5, 4 and nothing below (R24). -/
def flagByte (z n h c : Bool) : Byte :=
  BitVec.ofNat 8 (128 * z.toNat + 64 * n.toNat + 32 * h.toNat + 16 * c.toNat)

/-- F.Z, F.N, F.H, F.C (R24). -/
def State.zFlag (s : State) : Bool := s.f.getLsbD 7
/-- See `State.zFlag`. -/
def State.nFlag (s : State) : Bool := s.f.getLsbD 6
/-- See `State.zFlag`. -/
def State.hFlag (s : State) : Bool := s.f.getLsbD 5
/-- See `State.zFlag`. -/
def State.cFlag (s : State) : Bool := s.f.getLsbD 4

/-- The signed integer of an `e8` (R9, R83). -/
def sext (e : Byte) : Int := if e.toNat < 0x80 then e.toNat else (e.toNat : Int) - 256

/-! ## Memory -/

/-- The addresses whose byte a CPU write to `a` changes (R56 to R60). -/
def storeTargets (a : Word) : List Word :=
  if a.toNat ≤ 0x7FFF then []
  else if 0xC000 ≤ a.toNat ∧ a.toNat ≤ 0xDDFF then [a, a + 0x2000]
  else if 0xE000 ≤ a.toNat ∧ a.toNat ≤ 0xFDFF then [a, a - 0x2000]
  else if 0xFEA0 ≤ a.toNat ∧ a.toNat ≤ 0xFEFF then []
  else [a]

/-- What a CPU write of `v` to `a` emits before its `sync`, newest first (R57, R58, R322). -/
def writeEvents (a : Word) (v : Byte) : List Event :=
  if a.toNat ≤ 0x3FFF then [.memoryAccessFault a v .rom0, .mapperWrite a v]
  else if a.toNat ≤ 0x7FFF then [.memoryAccessFault a v .romx, .mapperWrite a v]
  else if 0xFEA0 ≤ a.toNat ∧ a.toNat ≤ 0xFEFF then [.memoryAccessFault a v .unusable]
  else []

/-- `t` is `s` after one CPU write of `v` to `a` and nothing else (R56 to R60, R103, R322): each byte, the events, the
count, and every other field as before. -/
def CpuWrite (a : Word) (v : Byte) (s t : State) : Prop :=
  (∀ x, t.byteAt x = if x ∈ storeTargets a then v else s.byteAt x) ∧
  t.cycles = s.cycles + BitVec.ofNat 64 s.params.cyclesPerAccess ∧
  t.log = .sync t.cycles :: (writeEvents a v ++ s.log) ∧
  t = { s with mem := t.mem, cycles := t.cycles, log := t.log }

/-- `s` after one bus read (R55, R103): the count and the hook call. -/
def State.afterRead (s : State) : State :=
  { s with
    cycles := s.cycles + BitVec.ofNat 64 s.params.cyclesPerAccess,
    log := .sync (s.cycles + BitVec.ofNat 64 s.params.cyclesPerAccess) :: s.log }

/-- The stored bytes are in canonical form. -/
def State.memOk (s : State) : Prop := Memory.wf s.params s.mem = true

/-- Working RAM and its echo agree (R61). -/
def State.mirrored (s : State) : Prop :=
  ∀ a : Word, 0xC000 ≤ a.toNat → a.toNat ≤ 0xDDFF → s.byteAt (a + 0x2000) = s.byteAt a

/-! ## Fetching -/

/-- Neither Halted nor Stopped (R30). -/
def State.running (s : State) : Prop := s.stopped = false ∧ s.halted = false

/-- The three bytes from PC on: as many as an instruction can have (R80). -/
def State.codeAt (s : State) : List Byte := [s.byteAt s.pc, s.byteAt (s.pc + 1), s.byteAt (s.pc + 2)]

/-- `s` after `n` calls of `FetchByte` (R105): each is one bus read, and PC moves past the byte. -/
def State.afterFetch : Nat → State → State
  | 0, s => s
  | n + 1, s => State.afterFetch n { s.afterRead with pc := s.pc + 1 }

/-! ## Forms of a family -/

/-- The words and the effect of the three forms of an 8-bit ALU operation on A: register and (HL) by the register code,
immediate. The (HL) form makes one bus read; none touches anything else than `effect` does. -/
def AluForms (op : AluOp) (regBase immOpcode : Byte) (effect : Byte → State → State) : Prop :=
  (∀ sl (k : Fin 8), decode sl [regBase + BitVec.ofNat 8 k.val] = .ok (Instr.alu op (.ofCode k)) []) ∧
  (∀ sl v, decode sl [immOpcode, v] = .ok (Instr.aluImm op v) []) ∧
  ∀ s : State,
    (∀ r, exec (Instr.alu op (.reg r)) s = .next (effect (s.reg r) s)) ∧
    exec (Instr.alu op .hlInd) s = .next (effect (s.byteAt s.hl) s.afterRead) ∧
    ∀ v, exec (Instr.aluImm op v) s = .next (effect v s)

/-- An instruction that reads an 8-bit operand, writes `value` of it back and F := `flags` of it: the register form, and
the (HL) form with one bus read and one CPU write, in a canonical memory. -/
def UpdatesOperand (i : Operand8 → Instr) (value : Byte → State → Byte) (flags : Byte → State → Byte) : Prop :=
  ∀ s : State,
    (∀ r, exec (i (.reg r)) s = .next ({ s with f := flags (s.reg r) s }.setReg r (value (s.reg r) s))) ∧
    (s.memOk → ∃ t, exec (i .hlInd) s = .next t ∧
      CpuWrite s.hl (value (s.byteAt s.hl) s) { s.afterRead with f := flags (s.byteAt s.hl) s } t)

/-- The result of a rotate or shift of the byte `v` with the old carry `c`, as a number (R118). -/
def shiftValue (op : ShiftOp) (v : Nat) (c : Bool) : Nat :=
  match op with
  | .rlc => 2 * v % 256 + v / 128
  | .rrc => v / 2 + 128 * (v % 2)
  | .rl => 2 * v % 256 + c.toNat
  | .rr => v / 2 + 128 * c.toNat
  | .sla => 2 * v % 256
  | .sra => v / 2 + 128 * (v / 128)
  | .swap => 16 * (v % 16) + v / 16
  | .srl => v / 2

/-- The bit that goes to C (R118). -/
def shiftCarry (op : ShiftOp) (v : Nat) : Bool :=
  match op with
  | .rlc | .rl | .sla => decide (128 ≤ v)
  | .rrc | .rr | .sra | .srl => decide (v % 2 = 1)
  | .swap => false

/-- `Push16(v)` as two CPU writes, high byte first, and the two steps of SP (R260). -/
def Pushes (v : Word) (s u : State) : Prop :=
  ∃ t, CpuWrite (s.sp - 1) (BitVec.ofNat 8 (v.toNat / 256)) { s with sp := s.sp - 1 } t ∧
    CpuWrite (s.sp - 2) (BitVec.ofNat 8 v.toNat) { t with sp := s.sp - 2 } u

/-- The word at the top of the stack, low byte at the lower address (R261). -/
def State.stackTop (s : State) : Word :=
  BitVec.ofNat 16 (256 * (s.byteAt (s.sp + 1)).toNat + (s.byteAt s.sp).toNat)

/-- `s` after `Pop16()`: two bus reads and SP + 2 (R261). -/
def State.afterPop (s : State) : State := { s.afterRead.afterRead with sp := s.sp + 2 }

/-- The number of two BCD digits in a byte. -/
def bcd (v : Byte) : Nat := 10 * (v.toNat / 16) + v.toNat % 16

/-- Both nibbles of a byte are decimal digits. -/
def isBcd (v : Byte) : Prop := v.toNat / 16 ≤ 9 ∧ v.toNat % 16 ≤ 9

/-! ## Timing -/

/-- How many calls of the timing hook a log holds. -/
def syncCount (log : List Event) : Nat :=
  (log.filter fun e => match e with
    | .sync _ => true
    | .mapperWrite _ _ | .memoryAccessFault _ _ _ | .trace _ => false).length

/-- The number of bus accesses of an instruction, opcode and operand fetches included: the table of R358, row by row. For
a conditional form it is read in the state whose flags decide. The bare escape byte is no instruction (R300) and has no
row. -/
def busAccesses (i : Instr) (s : State) : Nat :=
  match i with
  | .nop | .halt | .rlca | .rrca | .rla | .rra | .daa | .cpl | .scf | .ccf | .jpHl | .ldSpHl | .di | .ei | .ldBB
    | .ldBC | .ldBD | .ldBE | .ldBH | .ldBL | .ldBA | .ldCB | .ldCC | .ldCD | .ldCE | .ldCH | .ldCL | .ldCA | .ldDB
    | .ldDC | .ldDD | .ldDE | .ldDH | .ldDL | .ldDA | .ldEB | .ldEC | .ldED | .ldEE | .ldEH | .ldEL | .ldEA | .ldHB
    | .ldHC | .ldHD | .ldHE | .ldHH | .ldHL | .ldHA | .ldLB | .ldLC | .ldLD | .ldLE | .ldLH | .ldLL | .ldLA | .ldAB
    | .ldAC | .ldAD | .ldAE | .ldAH | .ldAL | .ldAA | .addAB | .addAC | .addAD | .addAE | .addAH | .addAL | .addAA
    | .adcAB | .adcAC | .adcAD | .adcAE | .adcAH | .adcAL | .adcAA | .subB | .subC | .subD | .subE | .subH | .subL
    | .subA | .sbcAB | .sbcAC | .sbcAD | .sbcAE | .sbcAH | .sbcAL | .sbcAA | .andB | .andC | .andD | .andE | .andH
    | .andL | .andA | .xorB | .xorC | .xorD | .xorE | .xorH | .xorL | .xorA | .orB | .orC | .orD | .orE | .orH | .orL
    | .orA | .cpB | .cpC | .cpD | .cpE | .cpH | .cpL | .cpA | .incB | .incC | .incD | .incE | .incH | .incL | .incA
    | .incBc | .incDe | .incHl | .incSp | .decB | .decC | .decD | .decE | .decH | .decL | .decA | .decBc | .decDe
    | .decHl | .decSp | .addHlBc | .addHlDe | .addHlHl | .addHlSp => 1
  | .ldBD8 _ | .ldCD8 _ | .ldDD8 _ | .ldED8 _ | .ldHD8 _ | .ldLD8 _ | .ldAD8 _ | .ldBIndHl | .ldCIndHl | .ldDIndHl
    | .ldEIndHl | .ldHIndHl | .ldLIndHl | .ldAIndHl | .ldIndHlB | .ldIndHlC | .ldIndHlD | .ldIndHlE | .ldIndHlH
    | .ldIndHlL | .ldIndHlA | .ldAIndBc | .ldAIndDe | .ldIndBcA | .ldIndDeA | .ldIndHlIncA | .ldIndHlDecA
    | .ldAIndHlInc | .ldAIndHlDec | .ldAIndC | .ldIndCA | .addAIndHl | .adcAIndHl | .subIndHl | .sbcAIndHl | .andIndHl
    | .xorIndHl | .orIndHl | .cpIndHl | .addAD8 _ | .adcAD8 _ | .subD8 _ | .sbcAD8 _ | .andD8 _ | .xorD8 _ | .orD8 _
    | .cpD8 _ | .jrE8 _ | .jrNzE8 _ | .jrZE8 _ | .jrNcE8 _ | .jrCE8 _ | .addSpE8 _ | .ldHlSpE8 _ | .rlcB | .rlcC
    | .rlcD | .rlcE | .rlcH | .rlcL | .rlcA | .rrcB | .rrcC | .rrcD | .rrcE | .rrcH | .rrcL | .rrcA | .rlB | .rlC
    | .rlD | .rlE | .rlH | .rlL | .rlA | .rrB | .rrC | .rrD | .rrE | .rrH | .rrL | .rrA | .slaB | .slaC | .slaD
    | .slaE | .slaH | .slaL | .slaA | .sraB | .sraC | .sraD | .sraE | .sraH | .sraL | .sraA | .swapB | .swapC | .swapD
    | .swapE | .swapH | .swapL | .swapA | .srlB | .srlC | .srlD | .srlE | .srlH | .srlL | .srlA | .bit0B | .bit0C
    | .bit0D | .bit0E | .bit0H | .bit0L | .bit0A | .bit1B | .bit1C | .bit1D | .bit1E | .bit1H | .bit1L | .bit1A
    | .bit2B | .bit2C | .bit2D | .bit2E | .bit2H | .bit2L | .bit2A | .bit3B | .bit3C | .bit3D | .bit3E | .bit3H
    | .bit3L | .bit3A | .bit4B | .bit4C | .bit4D | .bit4E | .bit4H | .bit4L | .bit4A | .bit5B | .bit5C | .bit5D
    | .bit5E | .bit5H | .bit5L | .bit5A | .bit6B | .bit6C | .bit6D | .bit6E | .bit6H | .bit6L | .bit6A | .bit7B
    | .bit7C | .bit7D | .bit7E | .bit7H | .bit7L | .bit7A | .res0B | .res0C | .res0D | .res0E | .res0H | .res0L
    | .res0A | .res1B | .res1C | .res1D | .res1E | .res1H | .res1L | .res1A | .res2B | .res2C | .res2D | .res2E
    | .res2H | .res2L | .res2A | .res3B | .res3C | .res3D | .res3E | .res3H | .res3L | .res3A | .res4B | .res4C
    | .res4D | .res4E | .res4H | .res4L | .res4A | .res5B | .res5C | .res5D | .res5E | .res5H | .res5L | .res5A
    | .res6B | .res6C | .res6D | .res6E | .res6H | .res6L | .res6A | .res7B | .res7C | .res7D | .res7E | .res7H
    | .res7L | .res7A | .set0B | .set0C | .set0D | .set0E | .set0H | .set0L | .set0A | .set1B | .set1C | .set1D
    | .set1E | .set1H | .set1L | .set1A | .set2B | .set2C | .set2D | .set2E | .set2H | .set2L | .set2A | .set3B
    | .set3C | .set3D | .set3E | .set3H | .set3L | .set3A | .set4B | .set4C | .set4D | .set4E | .set4H | .set4L
    | .set4A | .set5B | .set5C | .set5D | .set5E | .set5H | .set5L | .set5A | .set6B | .set6C | .set6D | .set6E
    | .set6H | .set6L | .set6A | .set7B | .set7C | .set7D | .set7E | .set7H | .set7L | .set7A => 2
  | .ldBcD16 _ | .ldDeD16 _ | .ldHlD16 _ | .ldSpD16 _ | .ldIndHlD8 _ | .incIndHl | .decIndHl | .ldhAIndA8 _
    | .ldhIndA8A _ | .jpA16 _ | .jpNzA16 _ | .jpZA16 _ | .jpNcA16 _ | .jpCA16 _ | .ret | .reti | .pushBc | .pushDe
    | .pushHl | .pushAf | .popBc | .popDe | .popHl | .popAf | .rst00 | .rst08 | .rst10 | .rst18 | .rst20 | .rst28
    | .rst30 | .rst38 | .bit0IndHl | .bit1IndHl | .bit2IndHl | .bit3IndHl | .bit4IndHl | .bit5IndHl | .bit6IndHl
    | .bit7IndHl => 3
  | .ldAIndA16 _ | .ldIndA16A _ | .rlcIndHl | .rrcIndHl | .rlIndHl | .rrIndHl | .slaIndHl | .sraIndHl | .swapIndHl
    | .srlIndHl | .res0IndHl | .res1IndHl | .res2IndHl | .res3IndHl | .res4IndHl | .res5IndHl | .res6IndHl
    | .res7IndHl | .set0IndHl | .set1IndHl | .set2IndHl | .set3IndHl | .set4IndHl | .set5IndHl | .set6IndHl
    | .set7IndHl => 4
  | .ldIndA16Sp _ | .callA16 _ => 5
  | .retNz => if s.cond .nz then 3 else 1
  | .callNzA16 _ => if s.cond .nz then 5 else 3
  | .retZ => if s.cond .z then 3 else 1
  | .callZA16 _ => if s.cond .z then 5 else 3
  | .retNc => if s.cond .nc then 3 else 1
  | .callNcA16 _ => if s.cond .nc then 5 else 3
  | .retC => if s.cond .c then 3 else 1
  | .callCA16 _ => if s.cond .c then 5 else 3
  | .stop => s.params.stopLength.toNat
  | .prefixCb => 0

/-- The instructions of 45_control.md, which may write PC. -/
def isControlFlow (i : Instr) : Bool :=
  match i with
  | .jrE8 _ | .jrNzE8 _ | .jrZE8 _ | .jrNcE8 _ | .jrCE8 _ | .retNz | .jpNzA16 _ | .jpA16 _ | .callNzA16 _ | .rst00
    | .retZ | .ret | .jpZA16 _ | .callZA16 _ | .callA16 _ | .rst08 | .retNc | .jpNcA16 _ | .callNcA16 _ | .rst10
    | .retC | .reti | .jpCA16 _ | .callCA16 _ | .rst18 | .rst20 | .jpHl | .rst28 | .rst30 | .rst38 => true
  | _ => false

/-! ## What holds in every state a run can meet -/

/-- The invariant: canonical memory, F's low nibble 0 (R24), `CYCLES_PER_ACCESS` at least 1 (R8), and never Halted and
Stopped at once (R30). -/
def State.Inv (s : State) : Prop :=
  s.memOk ∧ s.f &&& 0x0F = 0 ∧ 1 ≤ s.params.cyclesPerAccess ∧ ¬(s.halted = true ∧ s.stopped = true)

/-! ## Agreement but for what a collaborator sees -/

/-- Two outcomes are of one kind and their states agree under a view. -/
def Agree (view : State → State) : Result → Result → Prop
  | .next s, .next t => view s = view t
  | .fault (.decodeError b p s), .fault (.decodeError b' p' t) => b = b' ∧ p = p' ∧ view s = view t
  | .refused r, .refused r' => r = r'
  | _, _ => False

/-- The state without the collaborators: the emitted events and whether a trace sink is attached (R121, R340). -/
def State.bare (s : State) : State := { s with log := [], params := { s.params with traceSink := false } }

/-- The state without the timing: also without the count and its step (R359). -/
def State.untimed (s : State) : State :=
  { s with log := [], cycles := 0, params := { s.params with traceSink := false, cyclesPerAccess := 1 } }

/-- The state without IME (R29), and without the events, since a trace record shows IME. -/
def State.maskless (s : State) : State := { s with log := [], ime := false }

end Sys2Proof.Machine
end

