-- ==== Sys2Proof/Certificates/Slice0/Obligations.lean ====
section
/-! DEFINITION. The statements for the provers. Where a statement names an instruction by a family function of Decode.lean
(`Instr.ld`, `Instr.alu`, `Instr.bit`, ...), it speaks of every constructor in that function's table. An equation
`exec i s = .next { s with … }` is the result, the completion and the whole frame at once: what it does not name is
unchanged, memory, count and events included. The bus accesses a rule counts are one per byte of its decode clause (the
fetch, `StepRunsDecodedInstruction`) and those the equation shows (`afterRead`, `afterPop`, `CpuWrite`). -/

open Sys2Proof Sys2Proof.Machine

/-! ## Encoding -/

/-- Decoding the encoding of any whole instruction gives it back, with every operand at every value (R80 to R91). -/
def Obligations.DecodeEncodeRoundTrip : Prop :=
  ∀ (sl : StopLength) (i : Instr), i.wellFormed = true → ∀ rest, decode sl (encode sl i ++ rest) = .ok i rest

/-- Every decoded instruction is whole, and its encoding is the very bytes decoded, but for STOP, whose pad byte is not
decoded (R93, R97). -/
def Obligations.EncodeDecodeRoundTrip : Prop :=
  ∀ (sl : StopLength) (l rest : List Byte) (i : Instr), decode sl l = .ok i rest →
    i.wellFormed = true ∧ (i ≠ .stop → l = encode sl i ++ rest) ∧
    (i = .stop → l.head? = some 0x10 ∧ l.length = sl.toNat + rest.length)

/-- Exactly the eleven bytes of R92 are unmapped; every other first byte decodes once its operand bytes follow, and every
byte after 0xCB does. -/
def Obligations.UnmappedBytesAreTheElevenIllegal : Prop :=
  ∀ (sl : StopLength) (b x y : Byte) (l : List Byte),
    (b ∈ [0xD3, 0xDB, 0xDD, 0xE3, 0xE4, 0xEB, 0xEC, 0xED, 0xF4, 0xFC, 0xFD] →
      decode sl (b :: l) = .error (.unmapped b)) ∧
    (b ∉ [0xD3, 0xDB, 0xDD, 0xE3, 0xE4, 0xEB, 0xEC, 0xED, 0xF4, 0xFC, 0xFD] →
      ∃ i rest, decode sl [b, x, y] = .ok i rest)

/-- An instruction is 1, 2 or 3 bytes long, and its first byte alone fixes its length, by the table of R94 (R80). -/
def Obligations.FirstByteFixesLength : Prop :=
  ∀ (sl : StopLength) (b : Byte) (l rest : List Byte) (i : Instr), decode sl (b :: l) = .ok i rest →
    (b :: l).length = opcodeLength sl b + rest.length ∧ 1 ≤ opcodeLength sl b ∧ opcodeLength sl b ≤ 3

/-- One word of every family, written out from the encoding rules, decodes to the instruction it stands for. -/
def Obligations.SampleWordsDecode : Prop :=
  decode .two [0b01000001] = .ok .ldBC [] ∧
  decode .two [0b00111110, 0x42] = .ok (.ldAD8 0x42) [] ∧
  decode .two [0b00100001, 0x34, 0x12] = .ok (.ldHlD16 0x1234) [] ∧
  decode .two [0b10001001] = .ok .adcAC [] ∧
  decode .two [0b11101110, 0xFF] = .ok (.xorD8 0xFF) [] ∧
  decode .two [0b00110101] = .ok .decIndHl [] ∧
  decode .two [0xC3, 0x00, 0x02] = .ok (.jpA16 0x0200) [] ∧
  decode .two [0b00101000, 0xFB] = .ok (.jrZE8 0xFB) [] ∧
  decode .two [0b11110101] = .ok .pushAf [] ∧
  decode .two [0b00011111] = .ok .rra [] ∧
  decode .two [0b00010000, 0xD3] = .ok .stop [] ∧
  decode .two [0xCB, 0b01111100] = .ok .bit7H [] ∧
  decode .two [0xCB, 0b00110110] = .ok .swapIndHl []

/-! ## Registers and flags -/

/-- BC, DE, HL and AF are the two registers each, the first high; a pair write stores both, AF's low nibble as 0
(R22, R23). -/
def Obligations.PairsAreViewsOfRegisters : Prop :=
  ∀ (s : State) (v : Word),
    s.bc.toNat = 256 * s.b.toNat + s.c.toNat ∧ s.de.toNat = 256 * s.d.toNat + s.e.toNat ∧
    s.hl.toNat = 256 * s.h.toNat + s.l.toNat ∧ s.af.toNat = 256 * s.a.toNat + s.f.toNat ∧
    (let hi := BitVec.ofNat 8 (v.toNat / 256)
     let lo := BitVec.ofNat 8 v.toNat
     (s.setPair .bc v = { s with b := hi, c := lo } ∧ s.setPair .de v = { s with d := hi, e := lo } ∧
      s.setPair .hl v = { s with h := hi, l := lo } ∧ s.setPair .sp v = { s with sp := v }) ∧
     s.setStackPair .bc v = { s with b := hi, c := lo } ∧ s.setStackPair .de v = { s with d := hi, e := lo } ∧
     s.setStackPair .hl v = { s with h := hi, l := lo } ∧
     s.setStackPair .af v = { s with a := hi, f := lo &&& 0xF0 })

/-- A register write changes that register alone, and reads back (R10). -/
def Obligations.RegisterWriteChangesThatRegisterAlone : Prop :=
  ∀ (s : State) (r q : Reg8) (v : Byte),
    (s.setReg r v).reg q = (if q = r then v else s.reg q) ∧
    (let t := s.setReg r v
     t = { s with a := t.a, b := t.b, c := t.c, d := t.d, e := t.e, h := t.h, l := t.l })

/-- Z, N, H, C stand in bits 7, 6, 5, 4 of F, and no instruction stores a byte with a nonzero low nibble in F
(R24, R25). -/
def Obligations.FlagRegisterLayout : Prop :=
  (∀ z n h c, (Flags.mk z n h c).toByte = flagByte z n h c) ∧
  (∀ s : State, s.flags = ⟨s.zFlag, s.nFlag, s.hFlag, s.cFlag⟩) ∧
  ∀ (i : Instr) (s t : State), exec i s = .next t → t.f = s.f ∨ t.f &&& 0x0F = 0

/-- The four conditions, which operand fetches do not change (R110). -/
def Obligations.ConditionsReadZeroAndCarry : Prop :=
  ∀ s : State, (s.cond .nz = true ↔ s.zFlag = false) ∧ (s.cond .z = true ↔ s.zFlag = true) ∧
    (s.cond .nc = true ↔ s.cFlag = false) ∧ (s.cond .c = true ↔ s.cFlag = true) ∧
    ∀ cc n, (State.afterFetch n s).cond cc = s.cond cc

/-! ## Loads -/

/-- LD r,r', LD r,(HL), LD (HL),r (R150 to R152). -/
def Obligations.MoveBetweenRegistersAndHl : Prop :=
  (∀ sl (y z : Fin 8), ¬(y = 6 ∧ z = 6) →
    decode sl [0x40 + BitVec.ofNat 8 (8 * y.val + z.val)] = .ok (Instr.ld (.ofCode y) (.ofCode z)) []) ∧
  ∀ s : State,
    (∀ dst src, exec (Instr.ld (.reg dst) (.reg src)) s = .next (s.setReg dst (s.reg src))) ∧
    (∀ dst, exec (Instr.ld (.reg dst) .hlInd) s = .next (s.afterRead.setReg dst (s.byteAt s.hl))) ∧
    ∀ r, s.memOk → ∃ t, exec (Instr.ld .hlInd (.reg r)) s = .next t ∧ CpuWrite s.hl (s.reg r) s t

/-- LD r,d8 and LD (HL),d8 (R153, R154). -/
def Obligations.LoadImmediateByte : Prop :=
  (∀ sl (y : Fin 8) v, decode sl [BitVec.ofNat 8 (8 * y.val + 6), v] = .ok (Instr.ldImm (.ofCode y) v) []) ∧
  ∀ (s : State) (v : Byte),
    (∀ r, exec (Instr.ldImm (.reg r) v) s = .next (s.setReg r v)) ∧
    (s.memOk → ∃ t, exec (.ldIndHlD8 v) s = .next t ∧ CpuWrite s.hl v s t)

/-- The loads of A from memory: one literal read without side effect at the address of the form
(R155, R156, R159, R161, R163, R55). -/
def Obligations.LoadAccumulatorFromMemory : Prop :=
  (∀ sl lo hi, decode sl [0x0A] = .ok .ldAIndBc [] ∧ decode sl [0x1A] = .ok .ldAIndDe [] ∧
    decode sl [0xFA, lo, hi] = .ok (.ldAIndA16 (BitVec.ofNat 16 (256 * hi.toNat + lo.toNat))) [] ∧
    decode sl [0xF0, lo] = .ok (.ldhAIndA8 lo) [] ∧ decode sl [0xF2] = .ok .ldAIndC []) ∧
  ∀ s : State,
    exec .ldAIndBc s = .next { s.afterRead with a := s.byteAt s.bc } ∧
    exec .ldAIndDe s = .next { s.afterRead with a := s.byteAt s.de } ∧
    (∀ a, exec (.ldAIndA16 a) s = .next { s.afterRead with a := s.byteAt a }) ∧
    (∀ n : Byte, exec (.ldhAIndA8 n) s = .next { s.afterRead with a := s.byteAt (BitVec.ofNat 16 (0xFF00 + n.toNat)) }) ∧
    exec .ldAIndC s = .next { s.afterRead with a := s.byteAt (BitVec.ofNat 16 (0xFF00 + s.c.toNat)) }

/-- The stores of A: one CPU write at the address of the form, under the region policy
(R157, R158, R160, R162, R164, with R56 to R60 at every address). -/
def Obligations.StoreAccumulatorToMemory : Prop :=
  (∀ sl lo hi, decode sl [0x02] = .ok .ldIndBcA [] ∧ decode sl [0x12] = .ok .ldIndDeA [] ∧
    decode sl [0xEA, lo, hi] = .ok (.ldIndA16A (BitVec.ofNat 16 (256 * hi.toNat + lo.toNat))) [] ∧
    decode sl [0xE0, lo] = .ok (.ldhIndA8A lo) [] ∧ decode sl [0xE2] = .ok .ldIndCA []) ∧
  ∀ s : State, s.memOk →
    (∃ t, exec .ldIndBcA s = .next t ∧ CpuWrite s.bc s.a s t) ∧
    (∃ t, exec .ldIndDeA s = .next t ∧ CpuWrite s.de s.a s t) ∧
    (∀ a, ∃ t, exec (.ldIndA16A a) s = .next t ∧ CpuWrite a s.a s t) ∧
    (∀ n : Byte, ∃ t, exec (.ldhIndA8A n) s = .next t ∧ CpuWrite (BitVec.ofNat 16 (0xFF00 + n.toNat)) s.a s t) ∧
    ∃ t, exec .ldIndCA s = .next t ∧ CpuWrite (BitVec.ofNat 16 (0xFF00 + s.c.toNat)) s.a s t

/-- The forms (HL+) and (HL-): the access at the old HL, then HL stepped modulo 65536, whether or not the store was
dropped (R165 to R168). -/
def Obligations.LoadStoreWithHlStep : Prop :=
  (∀ sl, decode sl [0x22] = .ok .ldIndHlIncA [] ∧ decode sl [0x32] = .ok .ldIndHlDecA [] ∧
    decode sl [0x2A] = .ok .ldAIndHlInc [] ∧ decode sl [0x3A] = .ok .ldAIndHlDec []) ∧
  ∀ s : State,
    exec .ldAIndHlInc s = .next ({ s.afterRead with a := s.byteAt s.hl }.setPair .hl (s.hl + 1)) ∧
    exec .ldAIndHlDec s = .next ({ s.afterRead with a := s.byteAt s.hl }.setPair .hl (s.hl - 1)) ∧
    (s.memOk →
      (∃ t, exec .ldIndHlIncA s = .next (t.setPair .hl (s.hl + 1)) ∧ CpuWrite s.hl s.a s t) ∧
      ∃ t, exec .ldIndHlDecA s = .next (t.setPair .hl (s.hl - 1)) ∧ CpuWrite s.hl s.a s t)

/-- LD rp,d16, LD (a16),SP, LD SP,HL, LD HL,SP+e8 (R169 to R172). -/
def Obligations.SixteenBitLoads : Prop :=
  (∀ sl lo hi, (let v := BitVec.ofNat 16 (256 * hi.toNat + lo.toNat)
    decode sl [0x01, lo, hi] = .ok (.ldBcD16 v) [] ∧ decode sl [0x11, lo, hi] = .ok (.ldDeD16 v) [] ∧
    decode sl [0x21, lo, hi] = .ok (.ldHlD16 v) [] ∧ decode sl [0x31, lo, hi] = .ok (.ldSpD16 v) [] ∧
    decode sl [0x08, lo, hi] = .ok (.ldIndA16Sp v) []) ∧
    decode sl [0xF9] = .ok .ldSpHl [] ∧ decode sl [0xF8, lo] = .ok (.ldHlSpE8 lo) []) ∧
  ∀ s : State,
    (∀ v, exec (.ldBcD16 v) s = .next (s.setPair .bc v) ∧ exec (.ldDeD16 v) s = .next (s.setPair .de v) ∧
      exec (.ldHlD16 v) s = .next (s.setPair .hl v) ∧ exec (.ldSpD16 v) s = .next { s with sp := v }) ∧
    exec .ldSpHl s = .next { s with sp := s.hl } ∧
    (∀ e, exec (.ldHlSpE8 e) s = .next ({ s with
        f := flagByte false false (decide (s.sp.toNat % 16 + e.toNat % 16 ≥ 16)) (decide (s.sp.toNat % 256 + e.toNat ≥ 256))
      }.setPair .hl (BitVec.ofInt 16 (s.sp.toNat + sext e)))) ∧
    (s.memOk → ∀ a, ∃ t u, exec (.ldIndA16Sp a) s = .next u ∧
      CpuWrite a (BitVec.ofNat 8 s.sp.toNat) s t ∧ CpuWrite (a + 1) (BitVec.ofNat 8 (s.sp.toNat / 256)) t u)

/-! ## 8-bit arithmetic and logic -/

/-- ADD (R180 to R182). -/
def Obligations.AddSetsSumAndFlags : Prop :=
  AluForms .add 0x80 0xC6 fun v s => { s with
    a := BitVec.ofNat 8 (s.a.toNat + v.toNat),
    f := flagByte (decide ((s.a.toNat + v.toNat) % 256 = 0)) false (decide (s.a.toNat % 16 + v.toNat % 16 ≥ 16))
      (decide (s.a.toNat + v.toNat ≥ 256)) }

/-- ADC: sum and flags once over the 9-bit sum with the old carry (R183 to R185, R111). -/
def Obligations.AdcSetsNineBitSumAndFlags : Prop :=
  AluForms .adc 0x88 0xCE fun v s => { s with
    a := BitVec.ofNat 8 (s.a.toNat + v.toNat + s.cFlag.toNat),
    f := flagByte (decide ((s.a.toNat + v.toNat + s.cFlag.toNat) % 256 = 0)) false
      (decide (s.a.toNat % 16 + v.toNat % 16 + s.cFlag.toNat ≥ 16)) (decide (s.a.toNat + v.toNat + s.cFlag.toNat ≥ 256)) }

/-- SUB (R186 to R188). -/
def Obligations.SubSetsDifferenceAndFlags : Prop :=
  AluForms .sub 0x90 0xD6 fun v s => { s with
    a := s.a - v,
    f := flagByte (decide (s.a = v)) true (decide (s.a.toNat % 16 < v.toNat % 16)) (decide (s.a.toNat < v.toNat)) }

/-- SBC: difference and flags once over a - b - carry (R189 to R191, R112). -/
def Obligations.SbcSetsDifferenceAndFlags : Prop :=
  AluForms .sbc 0x98 0xDE fun v s => { s with
    a := BitVec.ofInt 8 ((s.a.toNat : Int) - v.toNat - s.cFlag.toNat),
    f := flagByte (decide (s.a.toNat = (v.toNat + s.cFlag.toNat) % 256)) true
      (decide (s.a.toNat % 16 < v.toNat % 16 + s.cFlag.toNat)) (decide (s.a.toNat < v.toNat + s.cFlag.toNat)) }

/-- CP: the flags of SUB, A unchanged (R192 to R194). -/
def Obligations.CompareSetsFlagsOnly : Prop :=
  AluForms .cp 0xB8 0xFE fun v s => { s with
    f := flagByte (decide (s.a = v)) true (decide (s.a.toNat % 16 < v.toNat % 16)) (decide (s.a.toNat < v.toNat)) }

/-- AND, XOR, OR (R200 to R208, R117). -/
def Obligations.LogicSetsResultAndFlags : Prop :=
  (AluForms .and 0xA0 0xE6 fun v s => { s with a := s.a &&& v, f := flagByte (decide (s.a &&& v = 0)) false true false }) ∧
  (AluForms .xor 0xA8 0xEE fun v s => { s with a := s.a ^^^ v, f := flagByte (decide (s.a = v)) false false false }) ∧
  AluForms .or 0xB0 0xF6 fun v s => { s with a := s.a ||| v, f := flagByte (decide (s.a = 0 ∧ v = 0)) false false false }

/-- ADD HL,rp and ADD SP,e8 (R195, R197, R115, R116). -/
def Obligations.SixteenBitAddition : Prop :=
  (∀ sl e, decode sl [0x09] = .ok .addHlBc [] ∧ decode sl [0x19] = .ok .addHlDe [] ∧
    decode sl [0x29] = .ok .addHlHl [] ∧ decode sl [0x39] = .ok .addHlSp [] ∧ decode sl [0xE8, e] = .ok (.addSpE8 e) []) ∧
  ∀ s : State,
    (∀ p, exec (Instr.addHl p) s = .next ({ s with
        f := flagByte s.zFlag false (decide (s.hl.toNat % 4096 + (s.pair p).toNat % 4096 ≥ 4096))
          (decide (s.hl.toNat + (s.pair p).toNat ≥ 65536)) }.setPair .hl (s.hl + s.pair p))) ∧
    ∀ e, exec (.addSpE8 e) s = .next { s with
        sp := BitVec.ofInt 16 (s.sp.toNat + sext e),
        f := flagByte false false (decide (s.sp.toNat % 16 + e.toNat % 16 ≥ 16)) (decide (s.sp.toNat % 256 + e.toNat ≥ 256)) }

/-- DAA: the correction 0x06 and 0x60 by N, H, C and the value of A, under both values of `DAA_CARRY_RULE` (R196). The
second test is on the value before the 0x06 step, A > 0x99, where R196 tests the value after it, > 0x9F. -/
def Obligations.DecimalAdjust : Prop :=
  (∀ sl, decode sl [0x27] = .ok .daa []) ∧
  ∀ s : State,
    let low := s.hFlag || (!s.nFlag && decide (s.a.toNat % 16 > 9))
    let high := s.cFlag || (!s.nFlag && decide (s.a.toNat > 0x99))
    let fix : Int := 0x06 * low.toNat + 0x60 * high.toNat
    let t : Int := if s.nFlag then s.a.toNat - fix else s.a.toNat + fix
    let overflow := decide (t < 0 ∨ t > 0xFF)
    exec .daa s = .next { s with
      a := BitVec.ofInt 8 t,
      f := flagByte (decide (t % 256 = 0)) s.nFlag false
        (if s.params.daaCarryRule = .or then s.cFlag || overflow else overflow) }

/-- After ADD of two BCD bytes, DAA leaves the BCD sum modulo 100 and its decimal carry, under the default
`DAA_CARRY_RULE` (R180, R196). -/
def Obligations.DecimalAdjustAfterAddIsBcdSum : Prop :=
  ∀ (s : State) (v : Byte), isBcd s.a → isBcd v → s.params.daaCarryRule = .or →
    ∃ t u, exec (.addAD8 v) s = .next t ∧ exec .daa t = .next u ∧
      isBcd u.a ∧ bcd u.a = (bcd s.a + bcd v) % 100 ∧ u.cFlag = decide (bcd s.a + bcd v ≥ 100)

/-- CPL, SCF, CCF (R209, R295, R296). -/
def Obligations.ComplementAndCarryFlag : Prop :=
  (∀ sl, decode sl [0x2F] = .ok .cpl [] ∧ decode sl [0x37] = .ok .scf [] ∧ decode sl [0x3F] = .ok .ccf []) ∧
  ∀ s : State,
    exec .cpl s = .next { s with a := BitVec.ofNat 8 (255 - s.a.toNat), f := flagByte s.zFlag true true s.cFlag } ∧
    exec .scf s = .next { s with f := flagByte s.zFlag false false true } ∧
    exec .ccf s = .next { s with f := flagByte s.zFlag false false (!s.cFlag) }

/-! ## Increment and decrement -/

/-- INC r, INC (HL), DEC r, DEC (HL): C unchanged (R220 to R223, R113). -/
def Obligations.IncrementDecrementByte : Prop :=
  (∀ sl (y : Fin 8), decode sl [BitVec.ofNat 8 (8 * y.val + 4)] = .ok (Instr.inc (.ofCode y)) [] ∧
    decode sl [BitVec.ofNat 8 (8 * y.val + 5)] = .ok (Instr.dec (.ofCode y)) []) ∧
  UpdatesOperand Instr.inc (fun v _ => BitVec.ofNat 8 (v.toNat + 1))
    (fun v s => flagByte (decide (v.toNat = 255)) false (decide (v.toNat % 16 = 15)) s.cFlag) ∧
  UpdatesOperand Instr.dec (fun v _ => BitVec.ofNat 8 (v.toNat + 255))
    (fun v s => flagByte (decide (v.toNat = 1)) true (decide (v.toNat % 16 = 0)) s.cFlag)

/-- INC rp and DEC rp: modulo 65536, no flag (R224, R225, R114). -/
def Obligations.IncrementDecrementPair : Prop :=
  (∀ sl, decode sl [0x03] = .ok .incBc [] ∧ decode sl [0x13] = .ok .incDe [] ∧ decode sl [0x23] = .ok .incHl [] ∧
    decode sl [0x33] = .ok .incSp [] ∧ decode sl [0x0B] = .ok .decBc [] ∧ decode sl [0x1B] = .ok .decDe [] ∧
    decode sl [0x2B] = .ok .decHl [] ∧ decode sl [0x3B] = .ok .decSp []) ∧
  ∀ (s : State) (p : Pair),
    exec (Instr.incPair p) s = .next (s.setPair p (BitVec.ofNat 16 ((s.pair p).toNat + 1))) ∧
    exec (Instr.decPair p) s = .next (s.setPair p (BitVec.ofNat 16 ((s.pair p).toNat + 65535)))

/-! ## Control flow and stack -/

/-- JP a16, JP cc,a16, JP HL: only PC, and only if taken (R240 to R242). -/
def Obligations.AbsoluteJumps : Prop :=
  (∀ sl lo hi, (let t := BitVec.ofNat 16 (256 * hi.toNat + lo.toNat)
    decode sl [0xC3, lo, hi] = .ok (.jpA16 t) [] ∧ decode sl [0xC2, lo, hi] = .ok (.jpNzA16 t) [] ∧
    decode sl [0xCA, lo, hi] = .ok (.jpZA16 t) [] ∧ decode sl [0xD2, lo, hi] = .ok (.jpNcA16 t) [] ∧
    decode sl [0xDA, lo, hi] = .ok (.jpCA16 t) []) ∧ decode sl [0xE9] = .ok .jpHl []) ∧
  ∀ (s : State) (t : Word),
    exec (.jpA16 t) s = .next { s with pc := t } ∧ exec .jpHl s = .next { s with pc := s.hl } ∧
    ∀ cc, exec (Instr.jpCond cc t) s = .next { s with pc := if s.cond cc then t else s.pc }

/-- JR e8 and JR cc,e8: relative to the address after the operand, modulo 65536 (R243, R244). -/
def Obligations.RelativeJumps : Prop :=
  (∀ sl e, decode sl [0x18, e] = .ok (.jrE8 e) [] ∧ decode sl [0x20, e] = .ok (.jrNzE8 e) [] ∧
    decode sl [0x28, e] = .ok (.jrZE8 e) [] ∧ decode sl [0x30, e] = .ok (.jrNcE8 e) [] ∧
    decode sl [0x38, e] = .ok (.jrCE8 e) []) ∧
  ∀ (s : State) (e : Byte),
    exec (.jrE8 e) s = .next { s with pc := BitVec.ofInt 16 (s.pc.toNat + sext e) } ∧
    ∀ cc, exec (Instr.jrCond cc e) s =
      .next { s with pc := if s.cond cc then BitVec.ofInt 16 (s.pc.toNat + sext e) else s.pc }

/-- CALL a16, CALL cc,a16, RST t: if taken, push the address after the instruction and jump; if not, nothing
(R245, R246, R251). -/
def Obligations.CallsPushReturnAddress : Prop :=
  (∀ sl lo hi, (let t := BitVec.ofNat 16 (256 * hi.toNat + lo.toNat)
    decode sl [0xCD, lo, hi] = .ok (.callA16 t) [] ∧ decode sl [0xC4, lo, hi] = .ok (.callNzA16 t) [] ∧
    decode sl [0xCC, lo, hi] = .ok (.callZA16 t) [] ∧ decode sl [0xD4, lo, hi] = .ok (.callNcA16 t) [] ∧
    decode sl [0xDC, lo, hi] = .ok (.callCA16 t) [])) ∧
  (∀ sl (y : Fin 8), decode sl [0xC7 + BitVec.ofNat 8 (8 * y.val)] = .ok (Instr.rst y) []) ∧
  ∀ s : State, s.memOk →
    (∀ t, ∃ u, exec (.callA16 t) s = .next { u with pc := t } ∧ Pushes s.pc s u) ∧
    (∀ cc t, (s.cond cc = true → ∃ u, exec (Instr.callCond cc t) s = .next { u with pc := t } ∧ Pushes s.pc s u) ∧
      (s.cond cc = false → exec (Instr.callCond cc t) s = .next s)) ∧
    ∀ y, ∃ u, exec (Instr.rst y) s = .next { u with pc := BitVec.ofNat 16 (8 * y.val) } ∧ Pushes s.pc s u

/-- RET, RET cc, RETI: if taken, pop PC; RETI also sets IME (R247 to R249). -/
def Obligations.ReturnsPopProgramCounter : Prop :=
  (∀ sl, decode sl [0xC9] = .ok .ret [] ∧ decode sl [0xC0] = .ok .retNz [] ∧ decode sl [0xC8] = .ok .retZ [] ∧
    decode sl [0xD0] = .ok .retNc [] ∧ decode sl [0xD8] = .ok .retC [] ∧ decode sl [0xD9] = .ok .reti []) ∧
  ∀ s : State,
    exec .ret s = .next { s.afterPop with pc := s.stackTop } ∧
    exec .reti s = .next { s.afterPop with pc := s.stackTop, ime := true } ∧
    ∀ cc, exec (Instr.retCond cc) s = .next (if s.cond cc then { s.afterPop with pc := s.stackTop } else s)

/-- PUSH rr: the pair's high byte at SP - 1, then its low byte at SP - 2, each under the region policy
(R262, R260). -/
def Obligations.PushStoresPair : Prop :=
  (∀ sl, decode sl [0xC5] = .ok .pushBc [] ∧ decode sl [0xD5] = .ok .pushDe [] ∧ decode sl [0xE5] = .ok .pushHl [] ∧
    decode sl [0xF5] = .ok .pushAf []) ∧
  ∀ s : State, s.memOk → ∀ p, ∃ u, exec (Instr.push p) s = .next u ∧ Pushes (s.stackPair p) s u

/-- POP rr: the word at SP goes to the pair the opcode names, F masked (R263). -/
def Obligations.PopLoadsNamedPair : Prop :=
  (∀ sl, decode sl [0xC1] = .ok .popBc [] ∧ decode sl [0xD1] = .ok .popDe [] ∧ decode sl [0xE1] = .ok .popHl [] ∧
    decode sl [0xF1] = .ok .popAf []) ∧
  ∀ (s : State) (p : StackPair), exec (Instr.pop p) s = .next (s.afterPop.setStackPair p s.stackTop)

/-- Push then pop gives the word back and SP returns, when both stack bytes are in writable regions; SP returns always
(R261, C10). -/
def Obligations.PushThenPopRestores : Prop :=
  ∀ (s : State) (p q : StackPair), s.memOk →
    ∃ t u, exec (Instr.push p) s = .next t ∧ exec (Instr.pop q) t = .next u ∧ u.sp = s.sp ∧
      ((region (s.sp - 1)).readOnly = false → (region (s.sp - 2)).readOnly = false →
        u.stackPair q = if q = .af then s.stackPair p &&& 0xFFF0 else s.stackPair p)

/-! ## Rotates and miscellaneous -/

/-- RLCA, RRCA, RLA, RRA: the family's result and carry, Z by `ACC_ROTATE_Z` (R280 to R283). -/
def Obligations.AccumulatorRotates : Prop :=
  (∀ sl, decode sl [0x07] = .ok .rlca [] ∧ decode sl [0x0F] = .ok .rrca [] ∧ decode sl [0x17] = .ok .rla [] ∧
    decode sl [0x1F] = .ok .rra []) ∧
  ∀ s : State,
    let rotated (op : ShiftOp) : State :=
      let r := shiftValue op s.a.toNat s.cFlag
      { s with
        a := BitVec.ofNat 8 r,
        f := flagByte (decide (s.params.accRotateZ = .result ∧ r = 0)) false false (shiftCarry op s.a.toNat) }
    exec .rlca s = .next (rotated .rlc) ∧ exec .rrca s = .next (rotated .rrc) ∧
    exec .rla s = .next (rotated .rl) ∧ exec .rra s = .next (rotated .rr)

/-- NOP, HALT (every later tick is a no-op), DI, EI (R290, R291, R293, R294). -/
def Obligations.NopHaltDiEi : Prop :=
  (∀ sl, decode sl [0x00] = .ok .nop [] ∧ decode sl [0x76] = .ok .halt [] ∧ decode sl [0xF3] = .ok .di [] ∧
    decode sl [0xFB] = .ok .ei []) ∧
  ∀ s : State,
    exec .nop s = .next s ∧ exec .halt s = .next { s with halted := true } ∧
    step { s with halted := true } = .next { s with halted := true } ∧
    exec .di s = .next { s with ime := false } ∧ exec .ei s = .next { s with ime := true }

/-- STOP: of either length, its pad byte ignored; Stopped, which every later tick leaves as it is, and the clear of
`STOP_CLEARS` without a bus access (R292). PC stays past the bytes fetched; with the pad byte at 0xFFFF it is one of the two
values that R292 gives, which one being left open in the state, the model's choice (log 18). -/
def Obligations.StopClearsInterruptEnable : Prop :=
  (∀ pad, decode .two [0x10, pad] = .ok .stop []) ∧ decode .one [0x10] = .ok .stop [] ∧
  ∀ s : State, s.memOk → ∃ t, exec .stop s = .next t ∧
    t = { s with stopped := true, mem := t.mem, ime := t.ime, pc := t.pc } ∧
    t.pc = (if s.params.stopLength = .two ∧ s.pc = 0x0000 ∧ s.params.stopPadWrap = .cornerCase then 0x0001 else s.pc) ∧
    (∀ a, t.byteAt a = if a = 0xFFFF ∧ s.params.stopClears ≠ .ime then 0x00 else s.byteAt a) ∧
    t.ime = (if s.params.stopClears = .ieRegister then s.ime else false) ∧ step t = .next t

/-! ## CB-prefixed -/

/-- The eight rotates and shifts on a register or (HL) (R301 to R308, R118). -/
def Obligations.RotateShiftOperand : Prop :=
  (∀ sl (y z : Fin 8), decode sl [0xCB, BitVec.ofNat 8 (8 * y.val + z.val)] = .ok (Instr.shift (.ofCode y) (.ofCode z)) []) ∧
  ∀ op, UpdatesOperand (Instr.shift op) (fun v s => BitVec.ofNat 8 (shiftValue op v.toNat s.cFlag))
    (fun v s => flagByte (decide (shiftValue op v.toNat s.cFlag = 0)) false false (shiftCarry op v.toNat))

/-- SWAP twice gives the byte back, on every register (R307, the source's property). -/
def Obligations.SwapIsItsOwnInverse : Prop :=
  ∀ (s : State) (r : Reg8), ∃ t u, exec (Instr.shift .swap (.reg r)) s = .next t ∧
    exec (Instr.shift .swap (.reg r)) t = .next u ∧ ∀ q, u.reg q = s.reg q

/-- BIT b: Z from the tested bit, N cleared, H set, C unchanged, nothing written (R309). -/
def Obligations.BitTestSetsZero : Prop :=
  (∀ sl (b z : Fin 8), decode sl [0xCB, 0x40 + BitVec.ofNat 8 (8 * b.val + z.val)] = .ok (Instr.bit b (.ofCode z)) []) ∧
  ∀ (s : State) (b : Fin 8),
    let tested (v : Byte) : Byte := flagByte (decide (v.toNat / 2 ^ b.val % 2 = 0)) false true s.cFlag
    (∀ r, exec (Instr.bit b (.reg r)) s = .next { s with f := tested (s.reg r) }) ∧
    exec (Instr.bit b .hlInd) s = .next { s.afterRead with f := tested (s.byteAt s.hl) }

/-- RES b and SET b: that bit alone, no flag (R310, R311). -/
def Obligations.ResetSetOneBit : Prop :=
  (∀ sl (b z : Fin 8), decode sl [0xCB, 0x80 + BitVec.ofNat 8 (8 * b.val + z.val)] = .ok (Instr.res b (.ofCode z)) [] ∧
    decode sl [0xCB, 0xC0 + BitVec.ofNat 8 (8 * b.val + z.val)] = .ok (Instr.set b (.ofCode z)) []) ∧
  ∀ (s : State) (b : Fin 8), ∃ cleared made : Byte → Byte,
    (∀ (v : Byte) (k : Nat), k < 8 →
      (cleared v).getLsbD k = (if k = b.val then false else v.getLsbD k) ∧
      (made v).getLsbD k = (if k = b.val then true else v.getLsbD k)) ∧
    (∀ r, exec (Instr.res b (.reg r)) s = .next (s.setReg r (cleared (s.reg r))) ∧
      exec (Instr.set b (.reg r)) s = .next (s.setReg r (made (s.reg r)))) ∧
    (s.memOk →
      (∃ t, exec (Instr.res b .hlInd) s = .next t ∧ CpuWrite s.hl (cleared (s.byteAt s.hl)) s.afterRead t) ∧
      ∃ t, exec (Instr.set b .hlInd) s = .next t ∧ CpuWrite s.hl (made (s.byteAt s.hl)) s.afterRead t)

/-- The escape byte fetches the next byte and does what the instruction it names does (R300, R106; log 6). -/
def Obligations.EscapeRunsSecondaryInstruction : Prop :=
  ∀ s : State, ∃ t, exec .prefixCb s = .next t ∧ exec (decodeSecondary (s.byteAt s.pc)) (State.afterFetch 1 s) = .next t

/-! ## All instructions -/

/-- Every instruction, whatever the state and its operands, answers a next state; no fault, no refusal. -/
def Obligations.EveryInstructionCompletes : Prop :=
  ∀ (i : Instr) (s : State), ∃ t, exec i s = .next t ∧ t.params = s.params

/-! ## The tick -/

/-- A Halted or Stopped tick changes nothing at all, and so does any number of them (R102). -/
def Obligations.HaltedAndStoppedTicksAreNoOps : Prop :=
  ∀ s : State, s.halted = true ∨ s.stopped = true → step s = .next s ∧ ∀ k, Sys2Proof.core.run k s = .next s

/-- When the bytes from PC on decode to an instruction, the tick fetches exactly its bytes, runs exec of it, and ends with
the optional trace record and the boundary `sync` (R100, R105, R107, R108, R340). -/
def Obligations.StepRunsDecodedInstruction : Prop :=
  ∀ (s : State) (i : Instr) (rest : List Byte), s.running →
    decode s.params.stopLength s.codeAt = .ok i rest →
    ∃ u, exec i (State.afterFetch (opcodeLength s.params.stopLength (s.byteAt s.pc)) s) = .next u ∧
      step s = .next { u with log := .sync u.cycles ::
        ((if s.params.traceSink then
            [.trace { opcode := s.byteAt s.pc,
                      second := if s.byteAt s.pc = 0xCB then some (s.byteAt (s.pc + 1)) else none,
                      pc0 := s.pc, regs := u.registers }]
          else []) ++ u.log) }

/-- An illegal byte at PC: DecodeError with the byte and its address; the state after is the state before but for the
fetch's one count and `sync`; and the next tick raises the same again (R321). -/
def Obligations.IllegalByteRaisesDecodeError : Prop :=
  ∀ s : State, s.running →
    s.byteAt s.pc ∈ [0xD3, 0xDB, 0xDD, 0xE3, 0xE4, 0xEB, 0xEC, 0xED, 0xF4, 0xFC, 0xFD] →
    step s = .fault (.decodeError (s.byteAt s.pc) s.pc s.afterRead) ∧
    step s.afterRead = .fault (.decodeError (s.byteAt s.pc) s.pc s.afterRead.afterRead)

/-- A step always answers a next state but in one case: running, with an illegal byte at PC. It never refuses. -/
def Obligations.StepStopsOnlyOnIllegalByte : Prop :=
  ∀ s : State, (∃ t, step s = .next t) ∨
    (s.running ∧ s.byteAt s.pc ∈ [0xD3, 0xDB, 0xDD, 0xE3, 0xE4, 0xEB, 0xEC, 0xED, 0xF4, 0xFC, 0xFD] ∧
      ∃ t, step s = .fault (.decodeError (s.byteAt s.pc) s.pc t))

/-- Halted is entered by HALT alone and Stopped by STOP alone (R101). -/
def Obligations.RunStateTransitions : Prop :=
  ∀ (s t : State) (i : Instr) (rest : List Byte), s.running →
    decode s.params.stopLength s.codeAt = .ok i rest → step s = .next t →
    (t.halted = true ↔ i = .halt) ∧ (t.stopped = true ↔ i = .stop)

/-- After an instruction that is not a control-flow instruction, PC is just past its last byte (R28). After a STOP of two
bytes at 0xFFFE it is one of the two values that R292 gives, which one being left open in the state (log 18). -/
def Obligations.ProgramCounterAdvancesPastInstruction : Prop :=
  ∀ (s t : State) (i : Instr) (rest : List Byte), s.running →
    decode s.params.stopLength s.codeAt = .ok i rest → isControlFlow i = false → step s = .next t →
    t.pc =
      if i = .stop ∧ s.params.stopLength = .two ∧ s.pc = 0xFFFE then
        if s.params.stopPadWrap = .cornerCase then 0x0001 else 0x0000
      else s.pc + BitVec.ofNat 16 (opcodeLength s.params.stopLength (s.byteAt s.pc))

/-- The timing table: an executed instruction of n bus accesses advances `cycles` by n times `CYCLES_PER_ACCESS` and makes
n + 1 `sync` calls; a DecodeError tick makes one access and one call; a no-op tick none (R358). -/
def Obligations.BusAccessTimingTable : Prop :=
  (∀ (s : State) (i : Instr) (rest : List Byte), s.running → decode s.params.stopLength s.codeAt = .ok i rest →
    ∃ t, step s = .next t ∧
      t.cycles = s.cycles + BitVec.ofNat 64 (busAccesses i s * s.params.cyclesPerAccess) ∧
      syncCount t.log = syncCount s.log + busAccesses i s + 1) ∧
  (∀ (s t : State) (b : Byte) (p : Word), step s = .fault (.decodeError b p t) →
    t.cycles = s.cycles + BitVec.ofNat 64 s.params.cyclesPerAccess ∧ syncCount t.log = syncCount s.log + 1) ∧
  ∀ s : State, ¬s.running → step s = .next s

/-! ## Memory over a step -/

/-- No step changes a byte of ROM0, ROMX or UNUSABLE (R57, R58). -/
def Obligations.RomAndUnusableNeverChange : Prop :=
  ∀ (s t : State), step s = .next t → ∀ a : Word,
    a.toNat ≤ 0x7FFF ∨ (0xFEA0 ≤ a.toNat ∧ a.toNat ≤ 0xFEFF) → t.byteAt a = s.byteAt a

/-- If working RAM and its echo agree before a tick, they agree after it (R61). -/
def Obligations.MirrorIsKeptByEveryStep : Prop :=
  ∀ s t : State, s.memOk → s.mirrored → step s = .next t → t.mirrored

/-! ## Invariants -/

/-- Every step keeps the invariant: canonical memory, F's low nibble 0, `CYCLES_PER_ACCESS` at least 1, never Halted and
Stopped at once (R24, R25, R8, R30). -/
def Obligations.StepKeepsInvariant : Prop :=
  ∀ s t : State, s.Inv → step s = .next t → t.Inv

/-- The reset state and every constructed state with `CYCLES_PER_ACCESS` at least 1 meet the invariant and the mirror. -/
def Obligations.ConstructionMeetsInvariant : Prop :=
  (State.reset.Inv ∧ State.reset.mirrored) ∧
  ∀ (p : Params) (img : List Byte), 1 ≤ p.cyclesPerAccess → (State.construct p img).Inv ∧ (State.construct p img).mirrored

/-- No step writes the parameters (R8). -/
def Obligations.ParametersAreFixed : Prop :=
  ∀ s t : State, step s = .next t → t.params = s.params

/-! ## Construction -/

/-- Construction: the register values of R35, memory from the image, `ROM_PAD` and `MEM_FILL` (R35, R350, R351). Two clauses
are inferences: that no event is emitted rests on the sentence of R350 marked derived and on log 3, which keeps the events in
`log`; that the parameters stand in the state is log 1. -/
def Obligations.ConstructionSetsRegistersAndMemory : Prop :=
  ∀ (p : Params) (img : List Byte),
    (State.construct p img).snapshot =
      { a := 0x00, f := 0x00, b := p.resetB, c := p.resetC, d := p.resetD, e := p.resetE, h := p.resetH, l := p.resetL,
        sp := 0xFFFE, pc := 0x0100, ime := true, halted := false, stopped := false, cycles := 0 } ∧
    (State.construct p img).engineState = .running ∧
    (State.construct p img).log = [] ∧ (State.construct p img).params = p ∧
    ∀ a : Word, (State.construct p img).byteAt a =
      if a.toNat ≤ 0x7FFF then img.getD a.toNat p.romPad else p.memFill

/-- The reset state is construction with the empty image and the default parameters; the image is the model's choice
(log 16). -/
def Obligations.ResetIsDefaultConstruction : Prop :=
  State.reset = State.construct Params.default [] ∧
  (∀ a : Word, State.reset.byteAt a = 0x00) ∧ State.reset.running ∧ State.reset.mem = []

/-! ## Independence -/

/-- No outcome depends on what was emitted before or on whether a trace sink is attached (R121, R340). -/
def Obligations.OutcomeIndependentOfCollaborators : Prop :=
  ∀ s t : State, s.bare = t.bare → Agree State.bare (step s) (step t)

/-- `CYCLES_PER_ACCESS` and the count change nothing but `cycles` and the arguments of `sync` (R359). -/
def Obligations.OutcomeIndependentOfTiming : Prop :=
  ∀ s t : State, s.untimed = t.untimed → Agree State.untimed (step s) (step t)

/-- No rule reads IME: runs that differ in IME differ in nothing else but what a trace record shows of it (R29, R325). -/
def Obligations.OutcomeIndependentOfInterruptMaster : Prop :=
  ∀ s t : State, s.maskless = t.maskless → Agree State.maskless (step s) (step t)
end

