-- ==== Sys2Proof/Laws/State.lean ====
section
/-! SUPPORT. For every update of the state, what each field is after it. -/

namespace Sys2Proof.Machine

variable (s : State)

/-! ### poke -/

@[simp] theorem State.poke_a (a : Word) (v : Byte) : (s.poke a v).a = s.a := rfl
@[simp] theorem State.poke_f (a : Word) (v : Byte) : (s.poke a v).f = s.f := rfl
@[simp] theorem State.poke_b (a : Word) (v : Byte) : (s.poke a v).b = s.b := rfl
@[simp] theorem State.poke_c (a : Word) (v : Byte) : (s.poke a v).c = s.c := rfl
@[simp] theorem State.poke_d (a : Word) (v : Byte) : (s.poke a v).d = s.d := rfl
@[simp] theorem State.poke_e (a : Word) (v : Byte) : (s.poke a v).e = s.e := rfl
@[simp] theorem State.poke_h (a : Word) (v : Byte) : (s.poke a v).h = s.h := rfl
@[simp] theorem State.poke_l (a : Word) (v : Byte) : (s.poke a v).l = s.l := rfl
@[simp] theorem State.poke_sp (a : Word) (v : Byte) : (s.poke a v).sp = s.sp := rfl
@[simp] theorem State.poke_pc (a : Word) (v : Byte) : (s.poke a v).pc = s.pc := rfl
@[simp] theorem State.poke_ime (a : Word) (v : Byte) : (s.poke a v).ime = s.ime := rfl
@[simp] theorem State.poke_halted (a : Word) (v : Byte) : (s.poke a v).halted = s.halted := rfl
@[simp] theorem State.poke_stopped (a : Word) (v : Byte) : (s.poke a v).stopped = s.stopped := rfl
@[simp] theorem State.poke_cycles (a : Word) (v : Byte) : (s.poke a v).cycles = s.cycles := rfl
@[simp] theorem State.poke_mem (a : Word) (v : Byte) : (s.poke a v).mem = Memory.write s.params s.mem a.toNat v := rfl
@[simp] theorem State.poke_params (a : Word) (v : Byte) : (s.poke a v).params = s.params := rfl
@[simp] theorem State.poke_log (a : Word) (v : Byte) : (s.poke a v).log = s.log := rfl

/-! ### emit -/

@[simp] theorem State.emit_a (e : Event) : (s.emit e).a = s.a := rfl
@[simp] theorem State.emit_f (e : Event) : (s.emit e).f = s.f := rfl
@[simp] theorem State.emit_b (e : Event) : (s.emit e).b = s.b := rfl
@[simp] theorem State.emit_c (e : Event) : (s.emit e).c = s.c := rfl
@[simp] theorem State.emit_d (e : Event) : (s.emit e).d = s.d := rfl
@[simp] theorem State.emit_e (e : Event) : (s.emit e).e = s.e := rfl
@[simp] theorem State.emit_h (e : Event) : (s.emit e).h = s.h := rfl
@[simp] theorem State.emit_l (e : Event) : (s.emit e).l = s.l := rfl
@[simp] theorem State.emit_sp (e : Event) : (s.emit e).sp = s.sp := rfl
@[simp] theorem State.emit_pc (e : Event) : (s.emit e).pc = s.pc := rfl
@[simp] theorem State.emit_ime (e : Event) : (s.emit e).ime = s.ime := rfl
@[simp] theorem State.emit_halted (e : Event) : (s.emit e).halted = s.halted := rfl
@[simp] theorem State.emit_stopped (e : Event) : (s.emit e).stopped = s.stopped := rfl
@[simp] theorem State.emit_cycles (e : Event) : (s.emit e).cycles = s.cycles := rfl
@[simp] theorem State.emit_mem (e : Event) : (s.emit e).mem = s.mem := rfl
@[simp] theorem State.emit_params (e : Event) : (s.emit e).params = s.params := rfl
@[simp] theorem State.emit_log (e : Event) : (s.emit e).log = e :: s.log := rfl

/-! ### busAccess -/

@[simp] theorem State.busAccess_a : (s.busAccess).a = s.a := rfl
@[simp] theorem State.busAccess_f : (s.busAccess).f = s.f := rfl
@[simp] theorem State.busAccess_b : (s.busAccess).b = s.b := rfl
@[simp] theorem State.busAccess_c : (s.busAccess).c = s.c := rfl
@[simp] theorem State.busAccess_d : (s.busAccess).d = s.d := rfl
@[simp] theorem State.busAccess_e : (s.busAccess).e = s.e := rfl
@[simp] theorem State.busAccess_h : (s.busAccess).h = s.h := rfl
@[simp] theorem State.busAccess_l : (s.busAccess).l = s.l := rfl
@[simp] theorem State.busAccess_sp : (s.busAccess).sp = s.sp := rfl
@[simp] theorem State.busAccess_pc : (s.busAccess).pc = s.pc := rfl
@[simp] theorem State.busAccess_ime : (s.busAccess).ime = s.ime := rfl
@[simp] theorem State.busAccess_halted : (s.busAccess).halted = s.halted := rfl
@[simp] theorem State.busAccess_stopped : (s.busAccess).stopped = s.stopped := rfl
@[simp] theorem State.busAccess_cycles : (s.busAccess).cycles = s.cycles + BitVec.ofNat 64 s.params.cyclesPerAccess := rfl
@[simp] theorem State.busAccess_mem : (s.busAccess).mem = s.mem := rfl
@[simp] theorem State.busAccess_params : (s.busAccess).params = s.params := rfl
@[simp] theorem State.busAccess_log : (s.busAccess).log = .sync (s.cycles + BitVec.ofNat 64 s.params.cyclesPerAccess) :: s.log := rfl

/-! ### setFlags -/

@[simp] theorem State.setFlags_a (fl : Flags) : (s.setFlags fl).a = s.a := rfl
@[simp] theorem State.setFlags_f (fl : Flags) : (s.setFlags fl).f = fl.toByte := rfl
@[simp] theorem State.setFlags_b (fl : Flags) : (s.setFlags fl).b = s.b := rfl
@[simp] theorem State.setFlags_c (fl : Flags) : (s.setFlags fl).c = s.c := rfl
@[simp] theorem State.setFlags_d (fl : Flags) : (s.setFlags fl).d = s.d := rfl
@[simp] theorem State.setFlags_e (fl : Flags) : (s.setFlags fl).e = s.e := rfl
@[simp] theorem State.setFlags_h (fl : Flags) : (s.setFlags fl).h = s.h := rfl
@[simp] theorem State.setFlags_l (fl : Flags) : (s.setFlags fl).l = s.l := rfl
@[simp] theorem State.setFlags_sp (fl : Flags) : (s.setFlags fl).sp = s.sp := rfl
@[simp] theorem State.setFlags_pc (fl : Flags) : (s.setFlags fl).pc = s.pc := rfl
@[simp] theorem State.setFlags_ime (fl : Flags) : (s.setFlags fl).ime = s.ime := rfl
@[simp] theorem State.setFlags_halted (fl : Flags) : (s.setFlags fl).halted = s.halted := rfl
@[simp] theorem State.setFlags_stopped (fl : Flags) : (s.setFlags fl).stopped = s.stopped := rfl
@[simp] theorem State.setFlags_cycles (fl : Flags) : (s.setFlags fl).cycles = s.cycles := rfl
@[simp] theorem State.setFlags_mem (fl : Flags) : (s.setFlags fl).mem = s.mem := rfl
@[simp] theorem State.setFlags_params (fl : Flags) : (s.setFlags fl).params = s.params := rfl
@[simp] theorem State.setFlags_log (fl : Flags) : (s.setFlags fl).log = s.log := rfl

/-! ### setHl -/

@[simp] theorem State.setHl_a (v : Word) : (s.setHl v).a = s.a := rfl
@[simp] theorem State.setHl_f (v : Word) : (s.setHl v).f = s.f := rfl
@[simp] theorem State.setHl_b (v : Word) : (s.setHl v).b = s.b := rfl
@[simp] theorem State.setHl_c (v : Word) : (s.setHl v).c = s.c := rfl
@[simp] theorem State.setHl_d (v : Word) : (s.setHl v).d = s.d := rfl
@[simp] theorem State.setHl_e (v : Word) : (s.setHl v).e = s.e := rfl
@[simp] theorem State.setHl_h (v : Word) : (s.setHl v).h = hi8 v := rfl
@[simp] theorem State.setHl_l (v : Word) : (s.setHl v).l = lo8 v := rfl
@[simp] theorem State.setHl_sp (v : Word) : (s.setHl v).sp = s.sp := rfl
@[simp] theorem State.setHl_pc (v : Word) : (s.setHl v).pc = s.pc := rfl
@[simp] theorem State.setHl_ime (v : Word) : (s.setHl v).ime = s.ime := rfl
@[simp] theorem State.setHl_halted (v : Word) : (s.setHl v).halted = s.halted := rfl
@[simp] theorem State.setHl_stopped (v : Word) : (s.setHl v).stopped = s.stopped := rfl
@[simp] theorem State.setHl_cycles (v : Word) : (s.setHl v).cycles = s.cycles := rfl
@[simp] theorem State.setHl_mem (v : Word) : (s.setHl v).mem = s.mem := rfl
@[simp] theorem State.setHl_params (v : Word) : (s.setHl v).params = s.params := rfl
@[simp] theorem State.setHl_log (v : Word) : (s.setHl v).log = s.log := rfl

/-! ### setReg -/

@[simp] theorem State.setReg_f (r : Reg8) (v : Byte) : (s.setReg r v).f = s.f := by cases r <;> rfl
@[simp] theorem State.setReg_sp (r : Reg8) (v : Byte) : (s.setReg r v).sp = s.sp := by cases r <;> rfl
@[simp] theorem State.setReg_pc (r : Reg8) (v : Byte) : (s.setReg r v).pc = s.pc := by cases r <;> rfl
@[simp] theorem State.setReg_ime (r : Reg8) (v : Byte) : (s.setReg r v).ime = s.ime := by cases r <;> rfl
@[simp] theorem State.setReg_halted (r : Reg8) (v : Byte) : (s.setReg r v).halted = s.halted := by cases r <;> rfl
@[simp] theorem State.setReg_stopped (r : Reg8) (v : Byte) : (s.setReg r v).stopped = s.stopped := by cases r <;> rfl
@[simp] theorem State.setReg_cycles (r : Reg8) (v : Byte) : (s.setReg r v).cycles = s.cycles := by cases r <;> rfl
@[simp] theorem State.setReg_mem (r : Reg8) (v : Byte) : (s.setReg r v).mem = s.mem := by cases r <;> rfl
@[simp] theorem State.setReg_params (r : Reg8) (v : Byte) : (s.setReg r v).params = s.params := by cases r <;> rfl
@[simp] theorem State.setReg_log (r : Reg8) (v : Byte) : (s.setReg r v).log = s.log := by cases r <;> rfl

/-! ### setPair -/

@[simp] theorem State.setPair_a (p : Pair) (v : Word) : (s.setPair p v).a = s.a := by cases p <;> rfl
@[simp] theorem State.setPair_f (p : Pair) (v : Word) : (s.setPair p v).f = s.f := by cases p <;> rfl
@[simp] theorem State.setPair_pc (p : Pair) (v : Word) : (s.setPair p v).pc = s.pc := by cases p <;> rfl
@[simp] theorem State.setPair_ime (p : Pair) (v : Word) : (s.setPair p v).ime = s.ime := by cases p <;> rfl
@[simp] theorem State.setPair_halted (p : Pair) (v : Word) : (s.setPair p v).halted = s.halted := by cases p <;> rfl
@[simp] theorem State.setPair_stopped (p : Pair) (v : Word) : (s.setPair p v).stopped = s.stopped := by cases p <;> rfl
@[simp] theorem State.setPair_cycles (p : Pair) (v : Word) : (s.setPair p v).cycles = s.cycles := by cases p <;> rfl
@[simp] theorem State.setPair_mem (p : Pair) (v : Word) : (s.setPair p v).mem = s.mem := by cases p <;> rfl
@[simp] theorem State.setPair_params (p : Pair) (v : Word) : (s.setPair p v).params = s.params := by cases p <;> rfl
@[simp] theorem State.setPair_log (p : Pair) (v : Word) : (s.setPair p v).log = s.log := by cases p <;> rfl

/-! ### setStackPair -/

@[simp] theorem State.setStackPair_sp (p : StackPair) (v : Word) : (s.setStackPair p v).sp = s.sp := by cases p <;> rfl
@[simp] theorem State.setStackPair_pc (p : StackPair) (v : Word) : (s.setStackPair p v).pc = s.pc := by cases p <;> rfl
@[simp] theorem State.setStackPair_ime (p : StackPair) (v : Word) : (s.setStackPair p v).ime = s.ime := by cases p <;> rfl
@[simp] theorem State.setStackPair_halted (p : StackPair) (v : Word) : (s.setStackPair p v).halted = s.halted := by cases p <;> rfl
@[simp] theorem State.setStackPair_stopped (p : StackPair) (v : Word) : (s.setStackPair p v).stopped = s.stopped := by cases p <;> rfl
@[simp] theorem State.setStackPair_cycles (p : StackPair) (v : Word) : (s.setStackPair p v).cycles = s.cycles := by cases p <;> rfl
@[simp] theorem State.setStackPair_mem (p : StackPair) (v : Word) : (s.setStackPair p v).mem = s.mem := by cases p <;> rfl
@[simp] theorem State.setStackPair_params (p : StackPair) (v : Word) : (s.setStackPair p v).params = s.params := by cases p <;> rfl
@[simp] theorem State.setStackPair_log (p : StackPair) (v : Word) : (s.setStackPair p v).log = s.log := by cases p <;> rfl

/-! ### storePolicy -/

@[simp] theorem State.storePolicy_a (a : Word) (v : Byte) : (s.storePolicy a v).a = s.a := by
  unfold State.storePolicy; repeat (first | rfl | split)
@[simp] theorem State.storePolicy_f (a : Word) (v : Byte) : (s.storePolicy a v).f = s.f := by
  unfold State.storePolicy; repeat (first | rfl | split)
@[simp] theorem State.storePolicy_b (a : Word) (v : Byte) : (s.storePolicy a v).b = s.b := by
  unfold State.storePolicy; repeat (first | rfl | split)
@[simp] theorem State.storePolicy_c (a : Word) (v : Byte) : (s.storePolicy a v).c = s.c := by
  unfold State.storePolicy; repeat (first | rfl | split)
@[simp] theorem State.storePolicy_d (a : Word) (v : Byte) : (s.storePolicy a v).d = s.d := by
  unfold State.storePolicy; repeat (first | rfl | split)
@[simp] theorem State.storePolicy_e (a : Word) (v : Byte) : (s.storePolicy a v).e = s.e := by
  unfold State.storePolicy; repeat (first | rfl | split)
@[simp] theorem State.storePolicy_h (a : Word) (v : Byte) : (s.storePolicy a v).h = s.h := by
  unfold State.storePolicy; repeat (first | rfl | split)
@[simp] theorem State.storePolicy_l (a : Word) (v : Byte) : (s.storePolicy a v).l = s.l := by
  unfold State.storePolicy; repeat (first | rfl | split)
@[simp] theorem State.storePolicy_sp (a : Word) (v : Byte) : (s.storePolicy a v).sp = s.sp := by
  unfold State.storePolicy; repeat (first | rfl | split)
@[simp] theorem State.storePolicy_pc (a : Word) (v : Byte) : (s.storePolicy a v).pc = s.pc := by
  unfold State.storePolicy; repeat (first | rfl | split)
@[simp] theorem State.storePolicy_ime (a : Word) (v : Byte) : (s.storePolicy a v).ime = s.ime := by
  unfold State.storePolicy; repeat (first | rfl | split)
@[simp] theorem State.storePolicy_halted (a : Word) (v : Byte) : (s.storePolicy a v).halted = s.halted := by
  unfold State.storePolicy; repeat (first | rfl | split)
@[simp] theorem State.storePolicy_stopped (a : Word) (v : Byte) : (s.storePolicy a v).stopped = s.stopped := by
  unfold State.storePolicy; repeat (first | rfl | split)
@[simp] theorem State.storePolicy_cycles (a : Word) (v : Byte) : (s.storePolicy a v).cycles = s.cycles := by
  unfold State.storePolicy; repeat (first | rfl | split)
@[simp] theorem State.storePolicy_params (a : Word) (v : Byte) : (s.storePolicy a v).params = s.params := by
  unfold State.storePolicy; repeat (first | rfl | split)

/-! ### Reading back what was written -/

@[simp] theorem State.reg_setReg_same (r : Reg8) (v : Byte) : (s.setReg r v).reg r = v := by cases r <;> rfl

theorem State.reg_setReg_other (r q : Reg8) (v : Byte) (h : q ≠ r) : (s.setReg r v).reg q = s.reg q := by
  cases r <;> cases q <;> first | rfl | exact absurd rfl h

@[simp] theorem hi8_concat16 (hi lo : Byte) : hi8 (concat16 hi lo) = hi := by
  simp only [hi8, concat16]
  exact BitVec.extractLsb'_append_eq_left

@[simp] theorem lo8_concat16 (hi lo : Byte) : lo8 (concat16 hi lo) = lo := by
  simp only [lo8, concat16]
  exact BitVec.extractLsb'_append_eq_right

@[simp] theorem concat16_hi8_lo8 (v : Word) : concat16 (hi8 v) (lo8 v) = v := by
  simp only [hi8, lo8, concat16]
  exact (BitVec.extractLsb'_append_extractLsb'_eq_extractLsb' (w := 16) (len₁ := 8) (len₂ := 8) (start₁ := 0) (start₂ := 8) (x := v) rfl).trans
    BitVec.extractLsb'_eq_self

@[simp] theorem imm16_lo8_hi8 (v : Word) : imm16 (lo8 v) (hi8 v) = v := concat16_hi8_lo8 v

@[simp] theorem State.pair_setPair (p : Pair) (v : Word) : (s.setPair p v).pair p = v := by
  cases p <;> simp [State.setPair, State.pair, State.bc, State.de, State.hl, State.setHl]

@[simp] theorem State.hl_setHl (v : Word) : (s.setHl v).hl = v := s.pair_setPair .hl v

@[simp] theorem State.byteAt_busAccess (a : Word) : s.busAccess.byteAt a = s.byteAt a := rfl

@[simp] theorem State.byteAt_emit (e : Event) (a : Word) : (s.emit e).byteAt a = s.byteAt a := rfl

@[simp] theorem State.byteAt_setFlags (fl : Flags) (a : Word) : (s.setFlags fl).byteAt a = s.byteAt a := rfl

/-- The flags written are the flags read (R24). -/
@[simp] theorem Flags.ofByte_toByte (fl : Flags) : Flags.ofByte fl.toByte = fl := by
  obtain ⟨z, n, h, c⟩ := fl
  cases z <;> cases n <;> cases h <;> cases c <;> rfl

@[simp] theorem State.flags_setFlags (fl : Flags) : (s.setFlags fl).flags = fl := Flags.ofByte_toByte fl

/-- A written F has its low nibble 0 (R24). -/
@[simp] theorem Flags.toByte_low (fl : Flags) : fl.toByte &&& 0x0F = 0 := by
  obtain ⟨z, n, h, c⟩ := fl
  cases z <;> cases n <;> cases h <;> cases c <;> rfl

end Sys2Proof.Machine
end

