-- ==== Sys2Proof/Laws/Memory.lean ====
section
/-! SUPPORT. The array: reading after writing, and that every memory operation keeps the canonical form. -/

namespace Sys2Proof.Machine

variable {p : Params}

/-! ## The canonical form -/

/-- The canonical form of a list with a first cell, as a proposition. -/
theorem Memory.wf_cons {k : Nat} {v : Byte} {m : List Host.Cell} :
    Memory.wf p ((k, v) :: m) = true ↔
      k < 0x10000 ∧ v ≠ Memory.blank p k ∧ (∀ c ∈ m, k < c.1) ∧ Memory.wf p m = true := by
  simp [Memory.wf, and_assoc]

/-- An address below all listed ones reads as unlisted. -/
theorem Memory.read_unlisted {m : List Host.Cell} {a : Nat} (h : ∀ c ∈ m, a < c.1) :
    Memory.read p m a = Memory.blank p a := by
  induction m with
  | nil => rfl
  | cons c m ih =>
    obtain ⟨k, w⟩ := c
    have hk : a < k := h _ (List.mem_cons_self ..)
    rw [Memory.read, if_neg (by omega)]
    exact ih fun c hc => h c (List.mem_cons_of_mem _ hc)

/-- Reading another address than the one written. -/
theorem Memory.read_write_other (m : List Host.Cell) {a b : Nat} (v : Byte) (h : b ≠ a) :
    Memory.read p (Memory.write p m a v) b = Memory.read p m b := by
  induction m with
  | nil => unfold Memory.write; split <;> simp [Memory.read, h.symm]
  | cons c m ih =>
    obtain ⟨k, w⟩ := c
    unfold Memory.write
    split
    · by_cases hk : k = b <;> simp [Memory.read, hk, ih]
    · split
      · subst k; split <;> simp [Memory.read, h.symm]
      · split
        · rfl
        · simp [Memory.read, h.symm]

/-- Reading the address written, in a canonical memory. -/
theorem Memory.read_write_same {m : List Host.Cell} (h : Memory.wf p m = true) (a : Nat) (v : Byte) :
    Memory.read p (Memory.write p m a v) a = v := by
  induction m with
  | nil => unfold Memory.write; split <;> simp_all [Memory.read]
  | cons c m ih =>
    obtain ⟨k, w⟩ := c
    obtain ⟨_, _, hlt, hm⟩ := Memory.wf_cons.1 h
    unfold Memory.write
    split
    · rw [Memory.read, if_neg (by omega)]; exact ih hm
    · rename_i hka
      split
      · subst k
        split
        · rename_i hv; rw [Memory.read_unlisted hlt, hv]
        · simp [Memory.read]
      · split
        · rename_i hne hv
          rw [Memory.read, if_neg hne, hv]
          exact Memory.read_unlisted fun c hc => by have := hlt c hc; omega
        · simp [Memory.read]

/-- Every cell of a written memory is the written one or was listed before. -/
theorem Memory.mem_write {m : List Host.Cell} {a : Nat} {v : Byte} {c : Host.Cell} (h : c ∈ Memory.write p m a v) :
    c = (a, v) ∨ c ∈ m := by
  induction m with
  | nil => unfold Memory.write at h; split at h <;> simp_all
  | cons d m ih =>
    obtain ⟨k, w⟩ := d
    unfold Memory.write at h
    split at h
    · rcases List.mem_cons.1 h with rfl | h
      · exact .inr (List.mem_cons_self ..)
      · exact (ih h).imp_right (List.mem_cons_of_mem _)
    · split at h
      · split at h
        · exact .inr (List.mem_cons_of_mem _ h)
        · exact (List.mem_cons.1 h).imp_right (List.mem_cons_of_mem _)
      · split at h
        · exact .inr h
        · exact List.mem_cons.1 h

/-- A write keeps the canonical form. -/
theorem Memory.write_wf {m : List Host.Cell} (h : Memory.wf p m = true) {a : Nat} (ha : a < 0x10000) (v : Byte) :
    Memory.wf p (Memory.write p m a v) = true := by
  induction m with
  | nil =>
    unfold Memory.write
    split
    · rfl
    · rename_i hv; exact Memory.wf_cons.2 ⟨ha, hv, by simp, rfl⟩
  | cons c m ih =>
    obtain ⟨k, w⟩ := c
    obtain ⟨hk, hw, hlt, hm⟩ := Memory.wf_cons.1 h
    unfold Memory.write
    split
    · rename_i hka
      refine Memory.wf_cons.2 ⟨hk, hw, fun c hc => ?_, ih hm⟩
      rcases Memory.mem_write hc with rfl | hc
      · exact hka
      · exact hlt c hc
    · split
      · subst k
        split
        · exact hm
        · rename_i hv; exact Memory.wf_cons.2 ⟨ha, hv, hlt, hm⟩
      · split
        · exact h
        · rename_i hv
          refine Memory.wf_cons.2 ⟨ha, hv, fun c hc => ?_, h⟩
          rcases List.mem_cons.1 hc with rfl | hc
          · simp only; omega
          · have := hlt c hc; omega

/-! ## A cartridge image -/

/-- Every cell of an image lies at or above its start, in the ROM window. -/
theorem Memory.mem_ofImage {img : List Byte} {a : Nat} {c : Host.Cell} (h : c ∈ Memory.ofImage p a img) :
    a ≤ c.1 ∧ c.1 < romWindow := by
  induction img generalizing a with
  | nil => simp [Memory.ofImage] at h
  | cons v img ih =>
    unfold Memory.ofImage at h
    split at h
    · split at h
      · have := ih h; omega
      · rcases List.mem_cons.1 h with rfl | h
        · simp only; omega
        · have := ih h; omega
    · simp at h

/-- An image gives a canonical memory. -/
theorem Memory.ofImage_wf (img : List Byte) (a : Nat) : Memory.wf p (Memory.ofImage p a img) = true := by
  induction img generalizing a with
  | nil => rfl
  | cons v img ih =>
    unfold Memory.ofImage
    split
    · rename_i ha
      split
      · exact ih _
      · rename_i hv
        refine Memory.wf_cons.2 ⟨by simp only [romWindow] at ha; omega, hv, fun c hc => ?_, ih _⟩
        have := Memory.mem_ofImage hc
        omega
    · rfl

/-! ## The byte at an address of a state -/

theorem State.byteAt_poke_other (s : State) {a b : Word} (v : Byte) (h : b ≠ a) : (s.poke a v).byteAt b = s.byteAt b :=
  Memory.read_write_other _ _ fun e => h (BitVec.eq_of_toNat_eq e)

theorem State.byteAt_poke_same {s : State} (h : s.memOk) (a : Word) (v : Byte) : (s.poke a v).byteAt a = v :=
  Memory.read_write_same h _ _

theorem State.byteAt_poke {s : State} (h : s.memOk) (a b : Word) (v : Byte) :
    (s.poke a v).byteAt b = if b = a then v else s.byteAt b := by
  split
  · subst b; exact State.byteAt_poke_same h a v
  · rename_i hb; exact s.byteAt_poke_other v hb

theorem State.memOk_poke {s : State} (h : s.memOk) (a : Word) (v : Byte) : (s.poke a v).memOk :=
  Memory.write_wf h a.isLt v

/-! ## The region policy -/

/-- The four kinds of address under the write policy, with the addresses of each (R51, R56). -/
theorem State.storePolicy_cases (s : State) (a : Word) (v : Byte) :
    (a.toNat ≤ 0x7FFF ∧ ∃ r, s.storePolicy a v = (s.emit (.mapperWrite a v)).emit (.memoryAccessFault a v r) ∧
      r = if a.toNat ≤ 0x3FFF then .rom0 else .romx) ∨
    (0xFEA0 ≤ a.toNat ∧ a.toNat ≤ 0xFEFF ∧ s.storePolicy a v = s.emit (.memoryAccessFault a v .unusable)) ∨
    (0xC000 ≤ a.toNat ∧ a.toNat ≤ 0xDDFF ∧ s.storePolicy a v = (s.poke a v).poke (a + 0x2000) v) ∨
    (0xE000 ≤ a.toNat ∧ a.toNat ≤ 0xFDFF ∧ s.storePolicy a v = (s.poke a v).poke (a - 0x2000) v) ∨
    (0x8000 ≤ a.toNat ∧ ¬(0xC000 ≤ a.toNat ∧ a.toNat ≤ 0xDDFF) ∧ ¬(0xE000 ≤ a.toNat ∧ a.toNat ≤ 0xFDFF) ∧
      ¬(0xFEA0 ≤ a.toNat ∧ a.toNat ≤ 0xFEFF) ∧ s.storePolicy a v = s.poke a v) := by
  unfold State.storePolicy region
  by_cases h1 : a.toNat ≤ 0x3FFF
  · exact .inl ⟨by omega, .rom0, by simp [h1]⟩
  by_cases h2 : a.toNat ≤ 0x7FFF
  · exact .inl ⟨h2, .romx, by simp [h1, h2]⟩
  by_cases h3 : a.toNat ≤ 0x9FFF
  · exact .inr (.inr (.inr (.inr ⟨by omega, by omega, by omega, by omega, by simp [h1, h2, h3]⟩)))
  by_cases h4 : a.toNat ≤ 0xBFFF
  · exact .inr (.inr (.inr (.inr ⟨by omega, by omega, by omega, by omega, by simp [h1, h2, h3, h4]⟩)))
  by_cases h5 : a.toNat ≤ 0xDFFF
  · by_cases h5' : a.toNat ≤ 0xDDFF
    · exact .inr (.inr (.inl ⟨by omega, h5', by simp [h1, h2, h3, h4, h5, h5', echoOffset]⟩))
    · exact .inr (.inr (.inr (.inr ⟨by omega, by omega, by omega, by omega, by simp [h1, h2, h3, h4, h5, h5']⟩)))
  by_cases h6 : a.toNat ≤ 0xFDFF
  · exact .inr (.inr (.inr (.inl ⟨by omega, h6, by simp [h1, h2, h3, h4, h5, h6, echoOffset]⟩)))
  by_cases h7 : a.toNat ≤ 0xFE9F
  · exact .inr (.inr (.inr (.inr ⟨by omega, by omega, by omega, by omega, by simp [h1, h2, h3, h4, h5, h6, h7]⟩)))
  by_cases h8 : a.toNat ≤ 0xFEFF
  · exact .inr (.inl ⟨by omega, h8, by simp [h1, h2, h3, h4, h5, h6, h7, h8]⟩)
  refine .inr (.inr (.inr (.inr ⟨by omega, by omega, by omega, by omega, ?_⟩)))
  by_cases h9 : a.toNat ≤ 0xFF7F
  · simp [h1, h2, h3, h4, h5, h6, h7, h8, h9]
  by_cases h10 : a.toNat ≤ 0xFFFE <;> simp [h1, h2, h3, h4, h5, h6, h7, h8, h9, h10]

/-- The bytes after the region policy of a write (R56 to R60). -/
theorem State.byteAt_storePolicy {s : State} (h : s.memOk) (a b : Word) (v : Byte) :
    (s.storePolicy a v).byteAt b = if b ∈ storeTargets a then v else s.byteAt b := by
  have two (c : Word) : ((s.poke a v).poke c v).byteAt b = if b ∈ [a, c] then v else s.byteAt b := by
    rw [State.byteAt_poke (State.memOk_poke h a v), State.byteAt_poke h]
    by_cases h1 : b = c <;> by_cases h2 : b = a <;> simp [h1, h2]
  rcases s.storePolicy_cases a v with ⟨h1, _, e, -⟩ | ⟨h1, h2, e⟩ | ⟨h1, h2, e⟩ | ⟨h1, h2, e⟩ | ⟨h1, h2, h3, h4, e⟩ <;> rw [e]
  · have ht : storeTargets a = [] := by unfold storeTargets; rw [if_pos h1]
    simp [ht]
  · have ht : storeTargets a = [] := by
      unfold storeTargets; rw [if_neg (by omega), if_neg (by omega), if_neg (by omega), if_pos ⟨h1, h2⟩]
    simp [ht]
  · have ht : storeTargets a = [a, a + 0x2000] := by unfold storeTargets; rw [if_neg (by omega), if_pos ⟨h1, h2⟩]
    rw [ht]; exact two _
  · have ht : storeTargets a = [a, a - 0x2000] := by
      unfold storeTargets; rw [if_neg (by omega), if_neg (by omega), if_pos ⟨h1, h2⟩]
    rw [ht]; exact two _
  · have ht : storeTargets a = [a] := by unfold storeTargets; rw [if_neg (by omega), if_neg h2, if_neg h3, if_neg h4]
    simp [ht, State.byteAt_poke h]

/-- The region policy keeps the canonical form. -/
theorem State.memOk_storePolicy {s : State} (h : s.memOk) (a : Word) (v : Byte) : (s.storePolicy a v).memOk := by
  rcases s.storePolicy_cases a v with ⟨_, _, e, -⟩ | ⟨_, _, e⟩ | ⟨_, _, e⟩ | ⟨_, _, e⟩ | ⟨_, _, _, _, e⟩ <;> rw [e]
  · exact h
  · exact h
  · exact State.memOk_poke (State.memOk_poke h a v) _ v
  · exact State.memOk_poke (State.memOk_poke h a v) _ v
  · exact State.memOk_poke h a v

/-- The addresses of the regions that CPU writes never change (R51). -/
theorem readOnly_iff (b : Word) :
    (region b).readOnly = true ↔ b.toNat ≤ 0x7FFF ∨ 0xFEA0 ≤ b.toNat ∧ b.toNat ≤ 0xFEFF := by
  unfold region
  split_ifs <;> simp [Region.readOnly] <;> omega

/-- A byte of a region that CPU writes never change keeps its value, whatever the memory (R57, R58). -/
theorem State.byteAt_storePolicy_readOnly (s : State) (a b : Word) (v : Byte) (hb : (region b).readOnly = true) :
    (s.storePolicy a v).byteAt b = s.byteAt b := by
  have hb := (readOnly_iff b).1 hb
  have one (t : State) {c : Word} (hc : 0x8000 ≤ c.toNat ∧ ¬(0xFEA0 ≤ c.toNat ∧ c.toNat ≤ 0xFEFF)) :
      (t.poke c v).byteAt b = t.byteAt b :=
    t.byteAt_poke_other v (by rintro rfl; omega)
  rcases s.storePolicy_cases a v with ⟨_, _, e, -⟩ | ⟨_, _, e⟩ | ⟨_, _, e⟩ | ⟨_, _, e⟩ | ⟨_, _, _, _, e⟩ <;> rw [e]
  · rfl
  · rfl
  · rw [one _ (by bv_omega), one _ (by omega)]
  · rw [one _ (by bv_omega), one _ (by omega)]
  · exact one _ (by omega)

/-- The events of a write (R57, R58, R322). -/
theorem State.log_storePolicy (s : State) (a : Word) (v : Byte) :
    (s.storePolicy a v).log = writeEvents a v ++ s.log := by
  unfold writeEvents
  rcases s.storePolicy_cases a v with ⟨h1, r, e, hr⟩ | ⟨h1, h2, e⟩ | ⟨h1, h2, e⟩ | ⟨h1, h2, e⟩ | ⟨h1, h2, h3, h4, e⟩ <;> rw [e]
  · rw [hr]
    by_cases h : a.toNat ≤ 0x3FFF
    · simp [h]
    · simp [h, h1]
  · rw [if_neg (by omega), if_neg (by omega), if_pos ⟨h1, h2⟩]; rfl
  · rw [if_neg (by omega), if_neg (by omega), if_neg (by omega)]; rfl
  · rw [if_neg (by omega), if_neg (by omega), if_neg (by omega)]; rfl
  · rw [if_neg (by omega), if_neg (by omega), if_neg (by omega)]; rfl

/-! ## One CPU write, one fetch -/

/-- Everything a CPU write does (R56, R103, R322), in a canonical memory. -/
theorem cpuWrite_memWrite {s : State} (h : s.memOk) (a : Word) (v : Byte) : CpuWrite a v s (memWrite a v s) := by
  refine ⟨fun x => State.byteAt_storePolicy h a x v, ?_, ?_, ?_⟩
  · simp [memWrite]
  · simp [memWrite, State.log_storePolicy]
  · rcases s.storePolicy_cases a v with ⟨_, _, e, -⟩ | ⟨_, _, e⟩ | ⟨_, _, e⟩ | ⟨_, _, e⟩ | ⟨_, _, _, _, e⟩ <;>
      simp only [memWrite, e] <;> rfl

/-- A CPU write keeps the canonical form. -/
theorem memOk_memWrite {s : State} (h : s.memOk) (a : Word) (v : Byte) : (memWrite a v s).memOk :=
  State.memOk_storePolicy h a v

/-- A bus read is `afterRead`. -/
theorem State.busAccess_eq (s : State) : s.busAccess = s.afterRead := rfl

end Sys2Proof.Machine
end

