-- ==== Sys2Proof/Laws/Exec.lean ====
section
/-! SUPPORT. What an instruction can do, said once: exec always answers a next state, and that state is reached from the
given one by register updates, bus reads, CPU writes, the setting of a run-state flag and STOP's clear of 0xFFFF. An
invariant of these five is an invariant of every instruction. -/

namespace Sys2Proof.Machine

/-- A register update: memory, count, parameters, events and run state stay, and F is kept or has its low nibble 0. -/
structure Quiet (s t : State) : Prop where
  mem : t.mem = s.mem
  cycles : t.cycles = s.cycles
  params : t.params = s.params
  log : t.log = s.log
  halted : t.halted = s.halted
  stopped : t.stopped = s.stopped
  f : t.f = s.f ∨ t.f &&& 0x0F = 0

/-- The five elementary effects. -/
inductive Micro (s : State) : State → Prop where
  | regs (t : State) (h : Quiet s t) : Micro s t
  | read : Micro s s.busAccess
  | write (a : Word) (v : Byte) : Micro s (memWrite a v s)
  | halt : Micro s { s with halted := true }
  | stop : Micro s { s with stopped := true }
  | clearIe : Micro s (s.poke 0xFFFF 0x00)

/-- A sequence of elementary effects. -/
inductive Path (s : State) : State → Prop where
  | refl : Path s s
  | step {t u : State} (h : Path s t) (m : Micro t u) : Path s u

theorem Path.trans {s t u : State} (h : Path s t) (k : Path t u) : Path s u := by
  induction k with
  | refl => exact h
  | step _ m ih => exact .step ih m

theorem Path.one {s t : State} (m : Micro s t) : Path s t := .step .refl m

/-- A property that every elementary effect keeps is kept along a path. -/
theorem Path.keeps {P : State → Prop} (hm : ∀ s t, Micro s t → P s → P t) {s t : State} (h : Path s t) (hs : P s) : P t := by
  induction h with
  | refl => exact hs
  | step _ m ih => exact hm _ _ m ih

/-! ## Register updates -/

theorem Quiet.setReg (s : State) (r : Reg8) (v : Byte) : Quiet s (s.setReg r v) := by
  constructor <;> first | exact .inl (by simp) | simp

theorem Quiet.setFlags (s : State) (fl : Flags) : Quiet s (s.setFlags fl) :=
  ⟨rfl, rfl, rfl, rfl, rfl, rfl, .inr (Flags.toByte_low fl)⟩

theorem Quiet.setPair (s : State) (p : Pair) (v : Word) : Quiet s (s.setPair p v) := by
  constructor <;> first | exact .inl (by simp) | simp

theorem and_F0_low (v : Byte) : v &&& 0xF0 &&& 0x0F = 0 := by
  rw [BitVec.and_assoc]; exact BitVec.and_zero

theorem Quiet.setStackPair (s : State) (p : StackPair) (v : Word) : Quiet s (s.setStackPair p v) := by
  constructor
  case f => cases p <;> first | exact .inl rfl | exact .inr (and_F0_low _)
  all_goals simp

theorem Path.quiet {s t : State} (h : Quiet s t) : Path s t := .one (.regs t h)

/-- An update of A, B, C, D, E, H, L, SP, PC or IME alone. -/
theorem Path.plain {s t : State}
    (h : t = { s with a := t.a, b := t.b, c := t.c, d := t.d, e := t.e, h := t.h, l := t.l, sp := t.sp, pc := t.pc, ime := t.ime }) :
    Path s t := by
  rw [h]; exact .quiet ⟨rfl, rfl, rfl, rfl, rfl, rfl, .inl rfl⟩

/-- Such an update and then the flags. -/
theorem Path.flags {s t : State} (fl : Flags) (h : Path s t) : Path s (t.setFlags fl) :=
  .step h (.regs _ (Quiet.setFlags t fl))

/-! ## Operands, stack, fetch -/

theorem path_read8 (o : Operand8) (s : State) : Path s (read8 o s).2 := by
  cases o with
  | reg r => exact .refl
  | hlInd => exact .one .read

theorem path_write8 (o : Operand8) (v : Byte) (s : State) : Path s (write8 o v s) := by
  cases o with
  | reg r => exact .quiet (Quiet.setReg s r v)
  | hlInd => exact .one (.write _ _)

theorem path_pushByte (v : Byte) (s : State) : Path s (pushByte v s) :=
  .step (t := { s with sp := s.sp - 1 }) (.plain rfl) (.write _ _)

theorem path_push16 (v : Word) (s : State) : Path s (push16 v s) :=
  (path_pushByte _ s).trans (path_pushByte _ _)

theorem path_popByte (s : State) : Path s (popByte s).2 :=
  (Path.one .read).trans (.plain rfl)

theorem path_pop16 (s : State) : Path s (pop16 s).2 :=
  (path_popByte s).trans (path_popByte _)

theorem path_fetchByte (s : State) : Path s (fetchByte s).2 :=
  (Path.one .read).trans (.plain rfl)

theorem path_fetchInstr (s : State) : Path s (fetchInstr s).2 := by
  have one := path_fetchByte s
  unfold fetchInstr
  generalize fetchByte s = r at one
  obtain ⟨b, s⟩ := r
  dsimp only at one ⊢
  cases decodePrimary b with
  | unmapped | op => exact one
  | escape => exact one.trans (path_fetchByte _)
  | imm8 => exact one.trans (path_fetchByte _)
  | imm16 => exact one.trans ((path_fetchByte _).trans (path_fetchByte _))
  | opPad =>
    dsimp only
    split
    · exact one
    · exact one.trans (path_fetchByte _)

/-! ## The shared operations of the families -/

variable (s : State)

theorem path_move (d o : Operand8) : Path s (move d o s) := (path_read8 o s).trans (path_write8 d _ _)
theorem path_loadA (a : Word) : Path s (loadA a s) := (Path.one .read).trans (.plain rfl)
theorem path_storeA (a : Word) : Path s (storeA a s) := .one (.write _ _)
theorem path_storeAStep (f : Word → Word) : Path s (storeAStep f s) :=
  (Path.one (.write s.hl s.a)).trans (.quiet (Quiet.setPair _ .hl _))
theorem path_loadAStep (f : Word → Word) : Path s (loadAStep f s) := (path_loadA s _).trans (.quiet (Quiet.setPair _ .hl _))
theorem path_setPair (p : Pair) (v : Word) : Path s (s.setPair p v) := .quiet (Quiet.setPair s p v)
theorem path_storeSp (a : Word) : Path s (storeSp a s) := (Path.one (.write a (lo8 s.sp))).step (.write _ _)
theorem path_loadHlSp (e : Byte) : Path s (loadHlSp e s) := .flags _ (.quiet (Quiet.setPair s .hl _))
theorem path_aluA (op : AluOp) (v : Byte) : Path s (aluA op v s) := .flags _ (.plain rfl)
theorem path_aluOperand (op : AluOp) (o : Operand8) : Path s (aluOperand op o s) := (path_read8 o s).trans (path_aluA _ _ _)
theorem path_addHl (p : Pair) : Path s (addHl p s) := .flags _ (.quiet (Quiet.setPair s .hl _))
theorem path_addSp (e : Byte) : Path s (addSp e s) := .flags _ (.plain rfl)
theorem path_daaA : Path s (daaA s) := .flags _ (.plain rfl)
theorem path_cplA : Path s (cplA s) := .flags _ (.plain rfl)
theorem path_incOperand (o : Operand8) : Path s (incOperand o s) := (Path.flags _ (path_read8 o s)).trans (path_write8 _ _ _)
theorem path_decOperand (o : Operand8) : Path s (decOperand o s) := (Path.flags _ (path_read8 o s)).trans (path_write8 _ _ _)
theorem path_incPair (p : Pair) : Path s (incPair p s) := path_setPair s p _
theorem path_decPair (p : Pair) : Path s (decPair p s) := path_setPair s p _
theorem path_jump (t : Word) : Path s (jump t s) := .plain rfl
theorem path_jumpIf (b : Bool) (t : Word) : Path s (jumpIf b t s) := by cases b <;> first | exact .refl | exact path_jump s t
theorem path_jumpRel (e : Byte) : Path s (jumpRel e s) := path_jump s _
theorem path_jumpRelIf (b : Bool) (e : Byte) : Path s (jumpRelIf b e s) := by
  cases b <;> first | exact .refl | exact path_jumpRel s e
theorem path_call (t : Word) : Path s (call t s) := (path_push16 _ s).trans (path_jump _ t)
theorem path_callIf (b : Bool) (t : Word) : Path s (callIf b t s) := by cases b <;> first | exact .refl | exact path_call s t
theorem path_ret : Path s (ret s) := (path_pop16 s).trans (path_jump _ _)
theorem path_retIf (b : Bool) : Path s (retIf b s) := by cases b <;> first | exact .refl | exact path_ret s
theorem path_reti : Path s { ret s with ime := true } := (path_ret s).trans (.plain rfl)
theorem path_popPair (p : StackPair) : Path s (popPair p s) := (path_pop16 s).trans (.quiet (Quiet.setStackPair _ p _))
theorem path_rotateA (op : ShiftOp) : Path s (rotateA op s) := .flags _ (.plain rfl)
theorem path_setFlags (fl : Flags) : Path s (s.setFlags fl) := .flags fl .refl
theorem path_stopClear : Path s (stopClear s) := by
  unfold stopClear
  split
  · exact .one .clearIe
  · exact .plain rfl
  · exact (Path.one .clearIe).trans (.plain rfl)
theorem path_stopWrap : Path s (stopWrap s) := .plain rfl
theorem path_stop : Path s (stopWrap (stopClear { s with stopped := true })) :=
  (Path.one .stop).trans ((path_stopClear _).trans (path_stopWrap _))
theorem path_cbShift (op : ShiftOp) (o : Operand8) : Path s (cbShift op o s) :=
  (Path.flags _ (path_read8 o s)).trans (path_write8 _ _ _)
theorem path_cbBit (b : Fin 8) (o : Operand8) : Path s (cbBit b o s) := .flags _ (path_read8 o s)
theorem path_cbRes (b : Fin 8) (o : Operand8) : Path s (cbRes b o s) := (path_read8 o s).trans (path_write8 _ _ _)
theorem path_cbSet (b : Fin 8) (o : Operand8) : Path s (cbSet b o s) := (path_read8 o s).trans (path_write8 _ _ _)
theorem path_secondaryOp (x : Byte) : Path s (secondaryOp x s) := by
  unfold secondaryOp
  split
  · exact path_cbShift ..
  · exact path_cbBit ..
  · exact path_cbRes ..
  · exact path_cbSet ..
theorem path_secondary : Path s (secondaryOp (fetchByte s).1 (fetchByte s).2) :=
  (path_fetchByte s).trans (path_secondaryOp _ _)

/-- Every instruction answers a next state, reached by elementary effects. -/
theorem exec_path (i : Instr) : ∃ t, exec i s = .next t ∧ Path s t := by
  cases i
  case prefixCb => exact ⟨_, rfl, path_secondary s⟩
  all_goals refine ⟨_, rfl, ?_⟩
  all_goals
    with_reducible first
    | exact Path.refl
    | exact path_move _ _ _
    | exact path_aluOperand _ _ _
    | exact path_cbShift _ _ _
    | exact path_cbBit _ _ _
    | exact path_cbRes _ _ _
    | exact path_cbSet _ _ _
    | exact path_incOperand _ _
    | exact path_decOperand _ _
    | exact path_write8 _ _ _
    | exact path_aluA _ _ _
    | exact path_call _ _
    | exact path_loadA _ _
    | exact path_storeA _ _
    | exact path_setPair _ _ _
    | exact path_incPair _ _
    | exact path_decPair _ _
    | exact path_addHl _ _
    | exact path_jumpIf _ _ _
    | exact path_jumpRelIf _ _ _
    | exact path_callIf _ _ _
    | exact path_retIf _ _
    | exact path_push16 _ _
    | exact path_popPair _ _
    | exact path_rotateA _ _
    | exact path_storeAStep _ _
    | exact path_loadAStep _ _
    | exact path_jump _ _
    | exact path_jumpRel _ _
    | exact path_storeSp _ _
    | exact path_loadHlSp _ _
    | exact path_addSp _ _
    | exact path_daaA _
    | exact path_cplA _
    | exact path_ret _
    | exact path_reti _
    | exact path_setFlags _ _
    | exact path_stop _
    | exact Path.one .halt
    | exact Path.plain rfl

end Sys2Proof.Machine
end

