-- ==== Sys2Proof/Laws/Flags.lean ====
section
/-! SUPPORT. Byte order, the flag byte and every ALU primitive in the numbers of the rules, so that no later proof unfolds
bit operations. -/

namespace Sys2Proof

/-! ## Byte order -/

theorem concat16_toNat (hi lo : Byte) : (concat16 hi lo).toNat = 256 * hi.toNat + lo.toNat := by
  have := hi.isLt; have := lo.isLt
  simp only [concat16, BitVec.toNat_append]
  rw [← Nat.shiftLeft_add_eq_or_of_lt lo.isLt, Nat.shiftLeft_eq]; omega

theorem imm16_eq_ofNat (lo hi : Byte) : imm16 lo hi = BitVec.ofNat 16 (256 * hi.toNat + lo.toNat) := by
  apply BitVec.eq_of_toNat_eq
  have := hi.isLt; have := lo.isLt
  rw [imm16, concat16_toNat]; simp; omega

theorem hi8_eq_ofNat (v : Word) : hi8 v = BitVec.ofNat 8 (v.toNat / 256) := by
  apply BitVec.eq_of_toNat_eq; simp [hi8, BitVec.extractLsb'_toNat, Nat.shiftRight_eq_div_pow]

theorem lo8_eq_ofNat (v : Word) : lo8 v = BitVec.ofNat 8 v.toNat := by
  apply BitVec.eq_of_toNat_eq; simp [lo8, BitVec.extractLsb'_toNat]

namespace Machine

theorem highPage_eq (n : Byte) : highPage n = BitVec.ofNat 16 (0xFF00 + n.toNat) := by
  apply BitVec.eq_of_toNat_eq
  have := n.isLt
  rw [highPage, concat16_toNat]; simp; omega

/-- Adding a sign-extended byte to a word, in integers (R9, R83). -/
theorem add_sext16 (v : Word) (e : Byte) : v + sext16 e = BitVec.ofInt 16 (v.toNat + sext e) := by
  rw [BitVec.ofInt_add]
  congr 1
  · simp
  · unfold sext16 sext
    rw [BitVec.signExtend, BitVec.toInt_eq_toNat_cond]
    congr 1
    split <;> split <;> omega

/-! ## The flag byte -/

theorem Flags.toByte_eq (z n h c : Bool) : (Flags.mk z n h c).toByte = flagByte z n h c := by
  cases z <;> cases n <;> cases h <;> cases c <;> rfl

theorem State.flags_eq (s : State) : s.flags = ⟨s.zFlag, s.nFlag, s.hFlag, s.cFlag⟩ := rfl

theorem State.setFlags_eq (s : State) (z n h c : Bool) : s.setFlags ⟨z, n, h, c⟩ = { s with f := flagByte z n h c } := by
  rw [← Flags.toByte_eq]; rfl

/-! ## The ALU primitives in numbers -/

theorem ofNat_beq_zero (k : Nat) : (BitVec.ofNat 8 k == 0#8) = decide (k % 256 = 0) := by
  rw [Bool.eq_iff_iff]; simp [← BitVec.toNat_inj]

theorem add8_eq (a b : Byte) (c : Bool) :
    add8 a b c = (BitVec.ofNat 8 (a.toNat + b.toNat + c.toNat),
      ⟨decide ((a.toNat + b.toNat + c.toNat) % 256 = 0), false, decide (a.toNat % 16 + b.toNat % 16 + c.toNat ≥ 16),
        decide (a.toNat + b.toNat + c.toNat ≥ 256)⟩) := by
  simp [add8, ofNat_beq_zero]

theorem sub8_eq (a b : Byte) (c : Bool) :
    sub8 a b c = (BitVec.ofInt 8 ((a.toNat : Int) - b.toNat - c.toNat),
      ⟨decide (a.toNat = (b.toNat + c.toNat) % 256), true, decide (a.toNat % 16 < b.toNat % 16 + c.toNat),
        decide (a.toNat < b.toNat + c.toNat)⟩) := by
  have := a.isLt; have := b.isLt
  have hc : c.toNat ≤ 1 := by cases c <;> simp
  simp only [sub8, Prod.mk.injEq, Flags.mk.injEq, true_and]
  refine ⟨?_, ?_, ?_⟩
  · rw [Bool.eq_iff_iff]; simp [← BitVec.toNat_inj]; omega
  · congr 1; rw [eq_iff_iff]; omega
  · congr 1; rw [eq_iff_iff]; omega

theorem inc8_eq (v : Byte) (c : Bool) :
    inc8 v c = (BitVec.ofNat 8 (v.toNat + 1), ⟨decide (v.toNat = 255), false, decide (v.toNat % 16 = 15), c⟩) := by
  revert v; cases c <;> decide +kernel

theorem dec8_eq (v : Byte) (c : Bool) :
    dec8 v c = (BitVec.ofNat 8 (v.toNat + 255), ⟨decide (v.toNat = 1), true, decide (v.toNat % 16 = 0), c⟩) := by
  revert v; cases c <;> decide +kernel

theorem shift_eq (op : ShiftOp) (v : Byte) (c : Bool) :
    shift op v c = (BitVec.ofNat 8 (shiftValue op v.toNat c),
      ⟨decide (shiftValue op v.toNat c = 0), false, false, shiftCarry op v.toNat⟩) := by
  revert v; cases op <;> cases c <;> decide +kernel

theorem addsp_eq (sp : Word) (e : Byte) :
    addsp sp e = (BitVec.ofInt 16 (sp.toNat + sext e),
      ⟨false, false, decide (sp.toNat % 16 + e.toNat % 16 ≥ 16), decide (sp.toNat % 256 + e.toNat ≥ 256)⟩) := by
  unfold addsp; rw [add_sext16]

end Machine
end Sys2Proof
end

