-- ==== Sys2Proof/Laws/Operations.lean ====
section
/-! SUPPORT. What the shared operations of the families do, said once: the stack primitives, reading and writing an operand
by its code, the 8-bit ALU operation, the jumps, and DAA's correction. -/

namespace Sys2Proof.Machine

/-! ## The stack -/

/-- Push16 is two CPU writes, high byte first, and SP - 2 (R260). -/
theorem pushes_push16 {s : State} (hm : s.memOk) (v : Word) : Pushes v s (push16 v s) := by
  have e : s.sp - 2 = s.sp - 1 - 1 := by bv_omega
  have first : CpuWrite (s.sp - 1) (hi8 v) { s with sp := s.sp - 1 } (pushByte (hi8 v) s) :=
    cpuWrite_memWrite (s := { s with sp := s.sp - 1 }) hm _ _
  have hm' : (pushByte (hi8 v) s).memOk := memOk_memWrite (s := { s with sp := s.sp - 1 }) hm _ _
  have hs : (pushByte (hi8 v) s).sp = s.sp - 1 := by rw [first.2.2.2]
  refine ⟨pushByte (hi8 v) s, ?_, ?_⟩
  · rw [← hi8_eq_ofNat]; exact first
  · rw [← lo8_eq_ofNat, e]
    unfold push16
    generalize pushByte (hi8 v) s = t at hm' hs
    unfold pushByte
    rw [hs]
    exact cpuWrite_memWrite (s := { t with sp := s.sp - 1 - 1 }) hm' _ _

/-- Pop16 is two bus reads and SP + 2 (R261). -/
theorem pop16_eq (s : State) : pop16 s = (s.stackTop, s.afterPop) := by
  have e : s.sp + 2 = s.sp + 1 + 1 := by bv_omega
  unfold State.afterPop State.stackTop
  rw [e, ← imm16_eq_ofNat]
  rfl

theorem ret_eq (s : State) : ret s = { s.afterPop with pc := s.stackTop } := by
  unfold ret; rw [pop16_eq]; rfl

/-! ## Operands by code -/

/-- An operation that reads an operand, computes from it and the state a byte and flags, and writes both: the flags, then
the operand. -/
theorem updatesOperand_of {i : Operand8 → Instr} {f : Byte → Bool → Byte × Flags} {value flags : Byte → State → Byte}
    (hi : ∀ o s, exec (i o) s = .next (let (v, t) := read8 o s
                                       write8 o (f v t.flags.c).1 (t.setFlags (f v t.flags.c).2)))
    (hv : ∀ v s, (f v s.flags.c).1 = value v s) (hf : ∀ v s, (f v s.flags.c).2.toByte = flags v s) :
    UpdatesOperand i value flags := by
  intro s
  refine ⟨fun r => ?_, fun hm => ⟨_, hi _ _, ?_⟩⟩
  · rw [hi, ← hv, ← hf]; rfl
  · rw [← hv, ← hf]
    exact cpuWrite_memWrite (s := { s.afterRead with f := (f (s.byteAt s.hl) s.flags.c).2.toByte }) hm _ _

theorem exec_ld (d o : Operand8) (h : ¬(d = .hlInd ∧ o = .hlInd)) (s : State) :
    exec (Instr.ld d o) s = .next (move d o s) := by
  rcases d with r | _ <;> rcases o with q | _
  · cases r <;> cases q <;> rfl
  · cases r <;> rfl
  · cases q <;> rfl
  · exact absurd ⟨rfl, rfl⟩ h

theorem exec_ldImm (d : Operand8) (v : Byte) (s : State) : exec (Instr.ldImm d v) s = .next (write8 d v s) := by
  rcases d with r | _ <;> first | rfl | (cases r <;> rfl)

theorem exec_inc (o : Operand8) (s : State) : exec (Instr.inc o) s = .next (incOperand o s) := by
  rcases o with r | _ <;> first | rfl | (cases r <;> rfl)

theorem exec_dec (o : Operand8) (s : State) : exec (Instr.dec o) s = .next (decOperand o s) := by
  rcases o with r | _ <;> first | rfl | (cases r <;> rfl)

theorem exec_alu (op : AluOp) (o : Operand8) (s : State) : exec (Instr.alu op o) s = .next (aluOperand op o s) := by
  rcases o with r | _
  · cases op <;> cases r <;> rfl
  · cases op <;> rfl

theorem exec_aluImm (op : AluOp) (v : Byte) (s : State) : exec (Instr.aluImm op v) s = .next (aluA op v s) := by
  cases op <;> rfl

theorem exec_shift (op : ShiftOp) (o : Operand8) (s : State) : exec (Instr.shift op o) s = .next (cbShift op o s) := by
  rcases o with r | _
  · cases op <;> cases r <;> rfl
  · cases op <;> rfl

theorem exec_bit (k : Fin 8) (o : Operand8) (s : State) : exec (Instr.bit k o) s = .next (cbBit k o s) := by
  rcases o with r | _
  · fin_cases k <;> cases r <;> rfl
  · fin_cases k <;> rfl

theorem exec_res (k : Fin 8) (o : Operand8) (s : State) : exec (Instr.res k o) s = .next (cbRes k o s) := by
  rcases o with r | _
  · fin_cases k <;> cases r <;> rfl
  · fin_cases k <;> rfl

theorem exec_set (k : Fin 8) (o : Operand8) (s : State) : exec (Instr.set k o) s = .next (cbSet k o s) := by
  rcases o with r | _
  · fin_cases k <;> cases r <;> rfl
  · fin_cases k <;> rfl

/-! ## Decimal adjust -/

/-- DAA's correction is the sum of a low and a high part, each taken or not (R196). -/
theorem daaCorrected_eq (fl : Flags) (a : Byte) :
    let low := fl.h || (!fl.n && decide (a.toNat % 16 > 9))
    let high := fl.c || (!fl.n && decide (a.toNat > 0x99))
    let fix : Int := 0x06 * low.toNat + 0x60 * high.toNat
    let t : Int := if fl.n then a.toNat - fix else a.toNat + fix
    daaCorrected a fl = (t, decide (t < 0 ∨ t > 0xFF)) := by
  revert a
  obtain ⟨z, n, h, c⟩ := fl
  cases z <;> cases n <;> cases h <;> cases c <;> decide +kernel

end Sys2Proof.Machine
end

