-- ==== Sys2Proof/Laws/Cost.lean ====
section
/-! SUPPORT. How many bus accesses each shared operation makes, and which operations leave PC and the run state alone. -/

namespace Sys2Proof.Machine

/-! ## Bus accesses -/

/-- `t` follows `s` by `k` bus accesses: the count, the number of hook calls and the parameters. -/
structure Cost (k : Nat) (s t : State) : Prop where
  cycles : t.cycles = s.cycles + BitVec.ofNat 64 (k * s.params.cyclesPerAccess)
  log : syncCount t.log = syncCount s.log + k
  params : t.params = s.params

theorem Cost.trans {j k : Nat} {s t u : State} (h : Cost j s t) (g : Cost k t u) : Cost (j + k) s u := by
  refine ⟨?_, ?_, g.params.trans h.params⟩
  · rw [g.cycles, h.cycles, h.params, BitVec.add_assoc, ← BitVec.ofNat_add, Nat.add_mul]
  · rw [g.log, h.log, Nat.add_assoc]

theorem Cost.zero {s t : State} (h1 : t.cycles = s.cycles) (h2 : t.log = s.log) (h3 : t.params = s.params) : Cost 0 s t :=
  ⟨by simp [h1], by rw [h2]; rfl, h3⟩

theorem Cost.refl (s : State) : Cost 0 s s := .zero rfl rfl rfl

/-- The accesses of an operand by its code (R109). -/
def operandCost : Operand8 → Nat
  | .reg _ => 0
  | .hlInd => 1

variable (s : State)

theorem cost_read : Cost 1 s s.busAccess := ⟨by simp, by simp [syncCount], by simp⟩

theorem cost_memWrite (a : Word) (v : Byte) : Cost 1 s (memWrite a v s) := by
  refine ⟨by simp [memWrite], ?_, by simp [memWrite]⟩
  simp only [memWrite, State.busAccess_log, State.log_storePolicy]
  unfold writeEvents
  split_ifs <;> simp [syncCount]

theorem cost_afterFetch (n : Nat) : Cost n s (State.afterFetch n s) := by
  induction n generalizing s with
  | zero => exact .refl s
  | succ n ih =>
    have h : Cost 1 s { s.afterRead with pc := s.pc + 1 } := ⟨(cost_read s).cycles, (cost_read s).log, rfl⟩
    have g := h.trans (ih _)
    rw [Nat.add_comm] at g
    exact g

theorem cost_read8 (o : Operand8) : Cost (operandCost o) s (read8 o s).2 := by
  cases o
  · exact .refl _
  · exact cost_read _

theorem cost_write8 (o : Operand8) (v : Byte) : Cost (operandCost o) s (write8 o v s) := by
  cases o with
  | reg r => exact .zero (by simp [write8]) (by simp [write8]) (by simp [write8])
  | hlInd => exact cost_memWrite s _ _

theorem cost_setFlags (fl : Flags) : Cost 0 s (s.setFlags fl) := .zero rfl rfl rfl
theorem cost_move (d o : Operand8) : Cost (operandCost o + operandCost d) s (move d o s) :=
  (cost_read8 s o).trans (cost_write8 _ _ _)
theorem cost_incOperand (o : Operand8) : Cost (operandCost o + (0 + operandCost o)) s (incOperand o s) :=
  (cost_read8 s o).trans ((cost_setFlags _ _).trans (cost_write8 _ _ _))
theorem cost_decOperand (o : Operand8) : Cost (operandCost o + (0 + operandCost o)) s (decOperand o s) :=
  (cost_read8 s o).trans ((cost_setFlags _ _).trans (cost_write8 _ _ _))
theorem cost_cbShift (op : ShiftOp) (o : Operand8) : Cost (operandCost o + (0 + operandCost o)) s (cbShift op o s) :=
  (cost_read8 s o).trans ((cost_setFlags _ _).trans (cost_write8 _ _ _))
theorem cost_cbBit (k : Fin 8) (o : Operand8) : Cost (operandCost o + 0) s (cbBit k o s) :=
  (cost_read8 s o).trans (cost_setFlags _ _)
theorem cost_cbRes (k : Fin 8) (o : Operand8) : Cost (operandCost o + operandCost o) s (cbRes k o s) :=
  (cost_read8 s o).trans (cost_write8 _ _ _)
theorem cost_cbSet (k : Fin 8) (o : Operand8) : Cost (operandCost o + operandCost o) s (cbSet k o s) :=
  (cost_read8 s o).trans (cost_write8 _ _ _)
theorem cost_aluA (op : AluOp) (v : Byte) : Cost 0 s (aluA op v s) := .zero rfl rfl rfl
theorem cost_aluOperand (op : AluOp) (o : Operand8) : Cost (operandCost o + 0) s (aluOperand op o s) :=
  (cost_read8 s o).trans (cost_aluA _ _ _)
theorem cost_loadA (a : Word) : Cost (1 + 0) s (loadA a s) := (cost_read s).trans (.zero rfl rfl rfl)
theorem cost_pushByte (v : Byte) : Cost (0 + 1) s (pushByte v s) :=
  Cost.trans (t := { s with sp := s.sp - 1 }) (.zero rfl rfl rfl) (cost_memWrite _ _ _)
theorem cost_push16 (v : Word) : Cost 2 s (push16 v s) := (cost_pushByte _ _).trans (cost_pushByte _ _)
theorem cost_afterPop : Cost (1 + (1 + 0)) s s.afterPop := (cost_read s).trans ((cost_read _).trans (.zero rfl rfl rfl))
theorem cost_call (t : Word) : Cost (2 + 0) s (call t s) := (cost_push16 s _).trans (.zero rfl rfl rfl)
theorem cost_ret : Cost (2 + 0) s (ret s) := by rw [ret_eq]; exact (cost_afterPop s).trans (.zero rfl rfl rfl)
theorem cost_popPair (p : StackPair) : Cost (2 + 0) s (popPair p s) := by
  unfold popPair; rw [pop16_eq]; exact (cost_afterPop s).trans (.zero (by simp) (by simp) (by simp))
theorem cost_callIf (b : Bool) (t : Word) : Cost (if b then 2 else 0) s (callIf b t s) := by
  cases b
  · exact .refl s
  · exact cost_call s t
theorem cost_retIf (b : Bool) : Cost (if b then 2 else 0) s (retIf b s) := by
  cases b
  · exact .refl s
  · exact cost_ret s
theorem cost_jumpIf (b : Bool) (t : Word) : Cost 0 s (jumpIf b t s) := by cases b <;> exact .zero rfl rfl rfl
theorem cost_jumpRelIf (b : Bool) (e : Byte) : Cost 0 s (jumpRelIf b e s) := by cases b <;> exact .zero rfl rfl rfl
theorem cost_stopClear : Cost 0 s (stopClear s) := by unfold stopClear; split <;> exact .zero rfl rfl rfl
theorem cost_stopWrap : Cost 0 s (stopWrap s) := .zero rfl rfl rfl

/-! ## PC and the run state -/

/-- PC and the run state are as before. -/
structure Stays (s t : State) : Prop where
  pc : t.pc = s.pc
  halted : t.halted = s.halted
  stopped : t.stopped = s.stopped

theorem Stays.trans {s t u : State} (h : Stays s t) (g : Stays t u) : Stays s u :=
  ⟨g.pc.trans h.pc, g.halted.trans h.halted, g.stopped.trans h.stopped⟩

theorem stays_memWrite (a : Word) (v : Byte) : Stays s (memWrite a v s) :=
  ⟨by simp [memWrite], by simp [memWrite], by simp [memWrite]⟩
theorem stays_read8 (o : Operand8) : Stays s (read8 o s).2 := by cases o <;> exact ⟨rfl, rfl, rfl⟩
theorem stays_write8 (o : Operand8) (v : Byte) : Stays s (write8 o v s) := by
  cases o with
  | reg r => exact ⟨by simp [write8], by simp [write8], by simp [write8]⟩
  | hlInd => exact stays_memWrite s _ _
theorem stays_setFlags (fl : Flags) : Stays s (s.setFlags fl) := ⟨rfl, rfl, rfl⟩
theorem stays_move (d o : Operand8) : Stays s (move d o s) := (stays_read8 s o).trans (stays_write8 _ _ _)
theorem stays_incOperand (o : Operand8) : Stays s (incOperand o s) :=
  (stays_read8 s o).trans ((stays_setFlags _ _).trans (stays_write8 _ _ _))
theorem stays_decOperand (o : Operand8) : Stays s (decOperand o s) :=
  (stays_read8 s o).trans ((stays_setFlags _ _).trans (stays_write8 _ _ _))
theorem stays_cbShift (op : ShiftOp) (o : Operand8) : Stays s (cbShift op o s) :=
  (stays_read8 s o).trans ((stays_setFlags _ _).trans (stays_write8 _ _ _))
theorem stays_cbBit (k : Fin 8) (o : Operand8) : Stays s (cbBit k o s) := (stays_read8 s o).trans (stays_setFlags _ _)
theorem stays_cbRes (k : Fin 8) (o : Operand8) : Stays s (cbRes k o s) := (stays_read8 s o).trans (stays_write8 _ _ _)
theorem stays_cbSet (k : Fin 8) (o : Operand8) : Stays s (cbSet k o s) := (stays_read8 s o).trans (stays_write8 _ _ _)
theorem stays_aluA (op : AluOp) (v : Byte) : Stays s (aluA op v s) := ⟨rfl, rfl, rfl⟩
theorem stays_aluOperand (op : AluOp) (o : Operand8) : Stays s (aluOperand op o s) :=
  (stays_read8 s o).trans (stays_aluA _ _ _)
theorem stays_pushByte (v : Byte) : Stays s (pushByte v s) :=
  ⟨by simp [pushByte, memWrite], by simp [pushByte, memWrite], by simp [pushByte, memWrite]⟩
theorem stays_push16 (v : Word) : Stays s (push16 v s) := (stays_pushByte s _).trans (stays_pushByte _ _)
theorem stays_popPair (p : StackPair) : Stays s (popPair p s) := by
  unfold popPair; rw [pop16_eq]; cases p <;> exact ⟨rfl, rfl, rfl⟩

end Sys2Proof.Machine
end

