-- ==== Sys2Proof/Laws/Step.lean ====
section
/-! SUPPORT. What one tick can do, said once: the fetch as the decoder sees it, and the cases of a step. -/

namespace Sys2Proof.Machine

/-! ## The fetch -/

/-- One FetchByte (R105). -/
theorem fetchByte_eq (s : State) : fetchByte s = (s.byteAt s.pc, State.afterFetch 1 s) := rfl

/-- The bytes of the array do not change while fetching. -/
@[simp] theorem State.byteAt_afterFetch (n : Nat) (s : State) (a : Word) : (State.afterFetch n s).byteAt a = s.byteAt a := by
  induction n generalizing s with
  | zero => rfl
  | succ n ih => exact ih _

@[simp] theorem State.pc_afterFetch (n : Nat) (s : State) : (State.afterFetch n s).pc = s.pc + BitVec.ofNat 16 n := by
  induction n generalizing s with
  | zero => simp [State.afterFetch]
  | succ n ih => rw [State.afterFetch, ih]; bv_omega

@[simp] theorem State.params_afterFetch (n : Nat) (s : State) : (State.afterFetch n s).params = s.params := by
  induction n generalizing s with
  | zero => rfl
  | succ n ih => exact ih _

theorem State.afterFetch_add (m n : Nat) (s : State) :
    State.afterFetch n (State.afterFetch m s) = State.afterFetch (m + n) s := by
  induction m generalizing s with
  | zero => simp [State.afterFetch]
  | succ m ih => rw [State.afterFetch, ih, Nat.add_right_comm]; rfl

/-- The fetch reads the very instruction that the decoder finds in the bytes from PC on, byte by byte. -/
theorem fetchInstr_of_decode {s : State} {i : Instr} {rest : List Byte}
    (h : decode s.params.stopLength s.codeAt = .ok i rest) :
    fetchInstr s = (.ok i, State.afterFetch (3 - rest.length) s) := by
  unfold State.codeAt at h
  unfold decode at h
  unfold fetchInstr
  rw [fetchByte_eq]
  dsimp only at h ⊢
  generalize decodePrimary (s.byteAt s.pc) = p at h
  cases p with
  | unmapped => simp at h
  | op j => simp only [DecodeResult.ok.injEq] at h; obtain ⟨rfl, rfl⟩ := h; rfl
  | escape => simp only [DecodeResult.ok.injEq] at h; obtain ⟨rfl, rfl⟩ := h; rfl
  | imm8 mk => simp only [DecodeResult.ok.injEq] at h; obtain ⟨rfl, rfl⟩ := h; rfl
  | imm16 mk =>
    simp only [DecodeResult.ok.injEq] at h
    obtain ⟨rfl, rfl⟩ := h
    have e : s.pc + 2 = s.pc + 1 + 1 := by bv_omega
    rw [e]; rfl
  | opPad j =>
    dsimp only at h ⊢
    rw [State.params_afterFetch]
    cases hl : s.params.stopLength <;> rw [hl] at h <;> simp only [DecodeResult.ok.injEq] at h <;>
      obtain ⟨rfl, rfl⟩ := h <;> rfl

/-- The length of an instruction by the format its first byte selects (R80, R94). -/
theorem opcodeLength_eq (sl : StopLength) (b : Byte) :
    opcodeLength sl b = match decodePrimary b with
      | .unmapped | .op _ => 1
      | .escape | .imm8 _ => 2
      | .opPad _ => sl.toNat
      | .imm16 _ => 3 := by
  cases sl <;> revert b <;> decide +kernel

/-- The eleven bytes of R92 are the unmapped ones. -/
theorem unmapped_iff (b : Byte) : decodePrimary b = .unmapped ↔ b ∈ illegalBytes := by
  have hb : (b ∈ illegalBytes) ↔ (match decodePrimary b with | .unmapped => true | _ => false) = true := by
    revert b; decide +kernel
  rw [hb]; cases decodePrimary b <;> simp

/-- The number of bytes the decoder takes is the length by the first byte. -/
theorem length_of_decode {sl : StopLength} {b : Byte} {l rest : List Byte} {i : Instr}
    (h : decode sl (b :: l) = .ok i rest) : (b :: l).length = opcodeLength sl b + rest.length := by
  rw [opcodeLength_eq]
  simp only [decode] at h
  revert h
  cases decodePrimary b <;> cases sl <;> rcases l with _ | ⟨x, _ | ⟨y, l⟩⟩ <;> simp [StopLength.toNat] <;>
    rintro - rfl <;> simp +arith

/-- The fetch of a decoded instruction, counted by its first byte. -/
theorem fetchInstr_eq {s : State} {i : Instr} {rest : List Byte}
    (h : decode s.params.stopLength s.codeAt = .ok i rest) :
    fetchInstr s = (.ok i, State.afterFetch (opcodeLength s.params.stopLength (s.byteAt s.pc)) s) := by
  have hl := length_of_decode h
  simp only [List.length_cons, List.length_nil] at hl
  rw [fetchInstr_of_decode h, show 3 - rest.length = opcodeLength s.params.stopLength (s.byteAt s.pc) by omega]

/-- An unmapped byte is given back after its one access. -/
theorem fetchInstr_of_unmapped {s : State} (h : decodePrimary (s.byteAt s.pc) = .unmapped) :
    fetchInstr s = (.error (s.byteAt s.pc), State.afterFetch 1 s) := by
  unfold fetchInstr
  rw [fetchByte_eq]
  dsimp only
  rw [h]

/-- The fetch gives back a byte only when it is unmapped. -/
theorem unmapped_of_fetchInstr {s : State} {b : Byte} {t : State} (h : fetchInstr s = (.error b, t)) :
    decodePrimary (s.byteAt s.pc) = .unmapped ∧ b = s.byteAt s.pc ∧ t = State.afterFetch 1 s := by
  unfold fetchInstr at h
  rw [fetchByte_eq] at h
  dsimp only at h
  generalize decodePrimary (s.byteAt s.pc) = p at h
  cases p with
  | unmapped => simp only [Prod.mk.injEq, Except.error.injEq] at h; exact ⟨rfl, h.1.symm, h.2.symm⟩
  | opPad => dsimp only at h; split at h <;> simp at h
  | op | escape | imm8 | imm16 => simp at h

/-! ## The step -/

/-- A step that answers a next state is a no-op tick, or runs one fetched instruction to its boundary. -/
theorem step_cases {s t : State} (h : step s = .next t) :
    ((s.stopped || s.halted) = true ∧ t = s) ∨
    ∃ i u, s.running ∧ (fetchInstr s).1 = .ok i ∧ exec i (fetchInstr s).2 = .next u ∧ t = boundary s u := by
  unfold step at h
  split at h
  · rename_i hs; exact .inl ⟨hs, (Host.Outcome.next.inj h).symm⟩
  · rename_i hs
    have hr : s.running := by
      unfold State.running
      cases hst : s.stopped <;> cases hh : s.halted <;> simp [hst, hh] at hs ⊢
    split at h
    · simp [raiseDecodeError] at h
    · rename_i i s1 hf
      obtain ⟨u, hu, -⟩ := exec_path s1 i
      rw [hu] at h
      exact .inr ⟨i, u, hr, by rw [hf], by rw [hf]; exact hu, (Host.Outcome.next.inj h).symm⟩

/-- A property of states that the five elementary effects and the boundary keep is kept by every step. -/
theorem step_keeps {P : State → Prop} (hm : ∀ s t, Micro s t → P s → P t) (hb : ∀ s u, P u → P (boundary s u))
    {s t : State} (h : step s = .next t) (hs : P s) : P t := by
  rcases step_cases h with ⟨-, rfl⟩ | ⟨i, u, -, -, hu, rfl⟩
  · exact hs
  · obtain ⟨u', hu', hp⟩ := exec_path (fetchInstr s).2 i
    rw [hu] at hu'
    obtain rfl := Host.Outcome.next.inj hu'
    exact hb _ _ (hp.keeps hm ((path_fetchInstr s).keeps hm hs))

/-- The boundary changes only the events. -/
theorem boundary_eq (s u : State) : boundary s u = { u with log := (boundary s u).log } := by
  unfold boundary
  split <;> rfl

end Sys2Proof.Machine
end

