-- ==== Sys2Proof/Tests/Slice0.lean ====
section
/-! SUPPORT. Tests of the model. Every expected result is the spec's: the words of 30_encoding.md and
spec/opcode_table.json, and the vectors and scenarios of 95_test_vectors.md, each named where it is used. At the end, one
witness for every obligation that has hypotheses. -/

open Sys2Proof Sys2Proof.Machine

namespace Sys2Proof.Tests

/-! ## Well-formedness -/

/-- The escape byte alone is no whole instruction (R300, log 6): the one check of WellFormed refuses it. -/
theorem test_wellFormed_refuses_escape : Instr.wellFormed .prefixCb = false := by decide

theorem test_wellFormed_accepts_others :
    Instr.wellFormed .nop = true ∧ Instr.wellFormed (.jpA16 0xFFFF) = true ∧ Instr.wellFormed .set7A = true := by decide

/-! ## Decoding -/

/-- The eleven illegal bytes (R92) are rejected by name; a cut list too. -/
theorem test_decode_rejects :
    illegalBytes.map (fun b => decode .two [b, 0x34, 0x12]) = illegalBytes.map (fun b => .error (.unmapped b)) ∧
    illegalBytes.length = 11 ∧ decode .two [] = .error .truncated ∧ decode .two [0xC3, 0x00] = .error .truncated ∧
    decode .two [0xCB] = .error .truncated ∧ decode .two [0x10] = .error .truncated := by decide

/-- Bit by bit from the field rules: `01 ddd sss` (R88), `10 ooo sss`, `11 ccc 010`, `11 pp0 101`, and in the secondary
table `01 bbb rrr` (R89 to R91). -/
theorem test_decode_fields :
    decode .two [0b01111000] = .ok .ldAB [] ∧ decode .two [0b01110101] = .ok .ldIndHlL [] ∧
    decode .two [0b10111110] = .ok .cpIndHl [] ∧ decode .two [0b11011010, 0xCD, 0xAB] = .ok (.jpCA16 0xABCD) [] ∧
    decode .two [0b11100101] = .ok .pushHl [] ∧ decode .two [0b11011111] = .ok .rst18 [] ∧
    decode .two [0xCB, 0b01101011] = .ok .bit5E [] ∧ decode .two [0xCB, 0b10011110] = .ok .res3IndHl [] ∧
    decode .two [0xCB, 0b00111111] = .ok .srlA [] := by decide

/-- Sixteen instructions: the opcode bytes `b` to `b + 15` after `pre`, with operand bytes 0x34, 0x12. -/
def decodeRow (pre : List Byte) (b : Byte) : List (Option Instr) :=
  (List.range 16).map fun k =>
    match decode .two (pre ++ [b + BitVec.ofNat 8 k, 0x34, 0x12]) with
    | .ok i _ => some i
    | .error _ => none

/-- The words of spec/opcode_table.json as it numbers them (log 7), and the bare escape byte (log 6). -/
theorem test_decodeTableWord :
    decodeTableWord 8 0x41 = some .ldBC ∧ decodeTableWord 24 0x1234C3 = some (.jpA16 0x1234) ∧
    decodeTableWord 8 0x3E = some (.ldAD8 0x00) ∧ decodeTableWord 16 0xCB7C = some .bit7H ∧
    decodeTableWord 8 0xCB = some .prefixCb ∧ decodeTableWord 8 0xD3 = none := by decide

/-! ## The bench: one tick from a small state -/

/-- The defaults with `CYCLES_PER_ACCESS` 4, as the vectors take it, and the reading of R292 by its pseudocode (log 18). -/
def params : Params := { Params.default with cyclesPerAccess := 4, stopPadWrap := .fetch }

/-- The empty image, PC at `pc`, the registers of `setup`, the bytes `mems` and `code` placed by the host. -/
def place (p : Params) (pc : Word) (code : List Byte) (mems : List (Word × Byte)) (setup : State → State) : State :=
  let s := setup { State.construct p [] with pc := pc }
  (mems.foldl (fun s c => s.hostWrite c.1 c.2) s).placeBytes pc code

/-- What `view` shows of the state after one tick that executes an instruction. -/
def tick {α : Type} (p : Params) (pc : Word) (code : List Byte) (mems : List (Word × Byte)) (setup : State → State)
    (view : State → α) : Option α :=
  match step (place p pc code mems setup) with
  | .next t => some (view t)
  | .fault _ | .refused _ => none

/-- The events of the log channel in order, without the hook calls. -/
def reports (t : State) : List Event :=
  t.log.reverse.filter fun e => match e with
    | .sync _ => false
    | .mapperWrite _ _ | .memoryAccessFault _ _ _ | .trace _ => true

/-! ### The primary table (R88, R92), row by row -/
-- 0xCB escapes to the secondary byte 0x34, `SWAP H`.

theorem test_decode_row_0 : decodeRow [] 0x00 =
   [some .nop, some (.ldBcD16 0x1234), some .ldIndBcA, some .incBc, some .incB, some .decB, some (.ldBD8 0x34),
    some .rlca, some (.ldIndA16Sp 0x1234), some .addHlBc, some .ldAIndBc, some .decBc, some .incC, some .decC,
    some (.ldCD8 0x34), some .rrca] := by decide

theorem test_decode_row_1 : decodeRow [] 0x10 =
   [some .stop, some (.ldDeD16 0x1234), some .ldIndDeA, some .incDe, some .incD, some .decD, some (.ldDD8 0x34),
    some .rla, some (.jrE8 0x34), some .addHlDe, some .ldAIndDe, some .decDe, some .incE, some .decE,
    some (.ldED8 0x34), some .rra] := by decide

theorem test_decode_row_2 : decodeRow [] 0x20 =
   [some (.jrNzE8 0x34), some (.ldHlD16 0x1234), some .ldIndHlIncA, some .incHl, some .incH, some .decH,
    some (.ldHD8 0x34), some .daa, some (.jrZE8 0x34), some .addHlHl, some .ldAIndHlInc, some .decHl, some .incL,
    some .decL, some (.ldLD8 0x34), some .cpl] := by decide

theorem test_decode_row_3 : decodeRow [] 0x30 =
   [some (.jrNcE8 0x34), some (.ldSpD16 0x1234), some .ldIndHlDecA, some .incSp, some .incIndHl, some .decIndHl,
    some (.ldIndHlD8 0x34), some .scf, some (.jrCE8 0x34), some .addHlSp, some .ldAIndHlDec, some .decSp,
    some .incA, some .decA, some (.ldAD8 0x34), some .ccf] := by decide

theorem test_decode_row_4 : decodeRow [] 0x40 =
   [some .ldBB, some .ldBC, some .ldBD, some .ldBE, some .ldBH, some .ldBL, some .ldBIndHl, some .ldBA,
    some .ldCB, some .ldCC, some .ldCD, some .ldCE, some .ldCH, some .ldCL, some .ldCIndHl, some .ldCA] := by decide

theorem test_decode_row_5 : decodeRow [] 0x50 =
   [some .ldDB, some .ldDC, some .ldDD, some .ldDE, some .ldDH, some .ldDL, some .ldDIndHl, some .ldDA,
    some .ldEB, some .ldEC, some .ldED, some .ldEE, some .ldEH, some .ldEL, some .ldEIndHl, some .ldEA] := by decide

theorem test_decode_row_6 : decodeRow [] 0x60 =
   [some .ldHB, some .ldHC, some .ldHD, some .ldHE, some .ldHH, some .ldHL, some .ldHIndHl, some .ldHA,
    some .ldLB, some .ldLC, some .ldLD, some .ldLE, some .ldLH, some .ldLL, some .ldLIndHl, some .ldLA] := by decide

theorem test_decode_row_7 : decodeRow [] 0x70 =
   [some .ldIndHlB, some .ldIndHlC, some .ldIndHlD, some .ldIndHlE, some .ldIndHlH, some .ldIndHlL, some .halt,
    some .ldIndHlA, some .ldAB, some .ldAC, some .ldAD, some .ldAE, some .ldAH, some .ldAL, some .ldAIndHl,
    some .ldAA] := by decide

theorem test_decode_row_8 : decodeRow [] 0x80 =
   [some .addAB, some .addAC, some .addAD, some .addAE, some .addAH, some .addAL, some .addAIndHl, some .addAA,
    some .adcAB, some .adcAC, some .adcAD, some .adcAE, some .adcAH, some .adcAL, some .adcAIndHl, some .adcAA] := by decide

theorem test_decode_row_9 : decodeRow [] 0x90 =
   [some .subB, some .subC, some .subD, some .subE, some .subH, some .subL, some .subIndHl, some .subA,
    some .sbcAB, some .sbcAC, some .sbcAD, some .sbcAE, some .sbcAH, some .sbcAL, some .sbcAIndHl, some .sbcAA] := by decide

theorem test_decode_row_A : decodeRow [] 0xA0 =
   [some .andB, some .andC, some .andD, some .andE, some .andH, some .andL, some .andIndHl, some .andA,
    some .xorB, some .xorC, some .xorD, some .xorE, some .xorH, some .xorL, some .xorIndHl, some .xorA] := by decide

theorem test_decode_row_B : decodeRow [] 0xB0 =
   [some .orB, some .orC, some .orD, some .orE, some .orH, some .orL, some .orIndHl, some .orA, some .cpB,
    some .cpC, some .cpD, some .cpE, some .cpH, some .cpL, some .cpIndHl, some .cpA] := by decide

theorem test_decode_row_C : decodeRow [] 0xC0 =
   [some .retNz, some .popBc, some (.jpNzA16 0x1234), some (.jpA16 0x1234), some (.callNzA16 0x1234),
    some .pushBc, some (.addAD8 0x34), some .rst00, some .retZ, some .ret, some (.jpZA16 0x1234), some .swapH,
    some (.callZA16 0x1234), some (.callA16 0x1234), some (.adcAD8 0x34), some .rst08] := by decide

theorem test_decode_row_D : decodeRow [] 0xD0 =
   [some .retNc, some .popDe, some (.jpNcA16 0x1234), none, some (.callNcA16 0x1234), some .pushDe,
    some (.subD8 0x34), some .rst10, some .retC, some .reti, some (.jpCA16 0x1234), none,
    some (.callCA16 0x1234), none, some (.sbcAD8 0x34), some .rst18] := by decide

theorem test_decode_row_E : decodeRow [] 0xE0 =
   [some (.ldhIndA8A 0x34), some .popHl, some .ldIndCA, none, none, some .pushHl, some (.andD8 0x34), some .rst20,
    some (.addSpE8 0x34), some .jpHl, some (.ldIndA16A 0x1234), none, none, none, some (.xorD8 0x34),
    some .rst28] := by decide

theorem test_decode_row_F : decodeRow [] 0xF0 =
   [some (.ldhAIndA8 0x34), some .popAf, some .ldAIndC, some .di, none, some .pushAf, some (.orD8 0x34),
    some .rst30, some (.ldHlSpE8 0x34), some .ldSpHl, some (.ldAIndA16 0x1234), some .ei, none, none,
    some (.cpD8 0x34), some .rst38] := by decide

/-! ### The secondary table (R91), row by row -/

theorem test_decode_cb_row_0 : decodeRow [0xCB] 0x00 =
   [some .rlcB, some .rlcC, some .rlcD, some .rlcE, some .rlcH, some .rlcL, some .rlcIndHl, some .rlcA,
    some .rrcB, some .rrcC, some .rrcD, some .rrcE, some .rrcH, some .rrcL, some .rrcIndHl, some .rrcA] := by decide

theorem test_decode_cb_row_1 : decodeRow [0xCB] 0x10 =
   [some .rlB, some .rlC, some .rlD, some .rlE, some .rlH, some .rlL, some .rlIndHl, some .rlA, some .rrB,
    some .rrC, some .rrD, some .rrE, some .rrH, some .rrL, some .rrIndHl, some .rrA] := by decide

theorem test_decode_cb_row_2 : decodeRow [0xCB] 0x20 =
   [some .slaB, some .slaC, some .slaD, some .slaE, some .slaH, some .slaL, some .slaIndHl, some .slaA,
    some .sraB, some .sraC, some .sraD, some .sraE, some .sraH, some .sraL, some .sraIndHl, some .sraA] := by decide

theorem test_decode_cb_row_3 : decodeRow [0xCB] 0x30 =
   [some .swapB, some .swapC, some .swapD, some .swapE, some .swapH, some .swapL, some .swapIndHl, some .swapA,
    some .srlB, some .srlC, some .srlD, some .srlE, some .srlH, some .srlL, some .srlIndHl, some .srlA] := by decide

theorem test_decode_cb_row_4 : decodeRow [0xCB] 0x40 =
   [some .bit0B, some .bit0C, some .bit0D, some .bit0E, some .bit0H, some .bit0L, some .bit0IndHl, some .bit0A,
    some .bit1B, some .bit1C, some .bit1D, some .bit1E, some .bit1H, some .bit1L, some .bit1IndHl, some .bit1A] := by decide

theorem test_decode_cb_row_5 : decodeRow [0xCB] 0x50 =
   [some .bit2B, some .bit2C, some .bit2D, some .bit2E, some .bit2H, some .bit2L, some .bit2IndHl, some .bit2A,
    some .bit3B, some .bit3C, some .bit3D, some .bit3E, some .bit3H, some .bit3L, some .bit3IndHl, some .bit3A] := by decide

theorem test_decode_cb_row_6 : decodeRow [0xCB] 0x60 =
   [some .bit4B, some .bit4C, some .bit4D, some .bit4E, some .bit4H, some .bit4L, some .bit4IndHl, some .bit4A,
    some .bit5B, some .bit5C, some .bit5D, some .bit5E, some .bit5H, some .bit5L, some .bit5IndHl, some .bit5A] := by decide

theorem test_decode_cb_row_7 : decodeRow [0xCB] 0x70 =
   [some .bit6B, some .bit6C, some .bit6D, some .bit6E, some .bit6H, some .bit6L, some .bit6IndHl, some .bit6A,
    some .bit7B, some .bit7C, some .bit7D, some .bit7E, some .bit7H, some .bit7L, some .bit7IndHl, some .bit7A] := by decide

theorem test_decode_cb_row_8 : decodeRow [0xCB] 0x80 =
   [some .res0B, some .res0C, some .res0D, some .res0E, some .res0H, some .res0L, some .res0IndHl, some .res0A,
    some .res1B, some .res1C, some .res1D, some .res1E, some .res1H, some .res1L, some .res1IndHl, some .res1A] := by decide

theorem test_decode_cb_row_9 : decodeRow [0xCB] 0x90 =
   [some .res2B, some .res2C, some .res2D, some .res2E, some .res2H, some .res2L, some .res2IndHl, some .res2A,
    some .res3B, some .res3C, some .res3D, some .res3E, some .res3H, some .res3L, some .res3IndHl, some .res3A] := by decide

theorem test_decode_cb_row_A : decodeRow [0xCB] 0xA0 =
   [some .res4B, some .res4C, some .res4D, some .res4E, some .res4H, some .res4L, some .res4IndHl, some .res4A,
    some .res5B, some .res5C, some .res5D, some .res5E, some .res5H, some .res5L, some .res5IndHl, some .res5A] := by decide

theorem test_decode_cb_row_B : decodeRow [0xCB] 0xB0 =
   [some .res6B, some .res6C, some .res6D, some .res6E, some .res6H, some .res6L, some .res6IndHl, some .res6A,
    some .res7B, some .res7C, some .res7D, some .res7E, some .res7H, some .res7L, some .res7IndHl, some .res7A] := by decide

theorem test_decode_cb_row_C : decodeRow [0xCB] 0xC0 =
   [some .set0B, some .set0C, some .set0D, some .set0E, some .set0H, some .set0L, some .set0IndHl, some .set0A,
    some .set1B, some .set1C, some .set1D, some .set1E, some .set1H, some .set1L, some .set1IndHl, some .set1A] := by decide

theorem test_decode_cb_row_D : decodeRow [0xCB] 0xD0 =
   [some .set2B, some .set2C, some .set2D, some .set2E, some .set2H, some .set2L, some .set2IndHl, some .set2A,
    some .set3B, some .set3C, some .set3D, some .set3E, some .set3H, some .set3L, some .set3IndHl, some .set3A] := by decide

theorem test_decode_cb_row_E : decodeRow [0xCB] 0xE0 =
   [some .set4B, some .set4C, some .set4D, some .set4E, some .set4H, some .set4L, some .set4IndHl, some .set4A,
    some .set5B, some .set5C, some .set5D, some .set5E, some .set5H, some .set5L, some .set5IndHl, some .set5A] := by decide

theorem test_decode_cb_row_F : decodeRow [0xCB] 0xF0 =
   [some .set6B, some .set6C, some .set6D, some .set6E, some .set6H, some .set6L, some .set6IndHl, some .set6A,
    some .set7B, some .set7C, some .set7D, some .set7E, some .set7H, some .set7L, some .set7IndHl, some .set7A] := by decide

/-! ## One tick each: the vectors of spec/95_test_vectors.md, named by their ids -/

/-- V-LD1, V-LD3. -/
theorem test_ld_registers_1 :
  tick params 0xC000 [0x41] [] (fun s => { s with c := 0x5A }) (fun t => t.b) =
    some 0x5A ∧
  tick params 0xC000 [0x66] [(0xC200, 0x9A)] (fun s => { s with h := 0xC2, l := 0x00 }) (fun t => t.h) =
    some 0x9A := by decide

/-- V-LD4, V-LD5. -/
theorem test_ld_registers_2 :
  tick params 0xC000 [0x75] [] (fun s => { s with h := 0xC0, l := 0x10 }) (fun t => (t.byteAt 0xC010, t.byteAt 0xE010)) =
    some (0x10, 0x10) ∧
  tick params 0xC000 [0x70] [] (fun s => { s with h := 0x40, l := 0x00, b := 0x12 }) (fun t => (t.byteAt 0x4000, reports t)) =
    some (0x00, [.mapperWrite 0x4000 0x12, .memoryAccessFault 0x4000 0x12 .romx]) := by decide

/-- V-LD6, V-LD7, V-LD8. -/
theorem test_ld_immediates_1 :
  tick params 0xC000 [0x1E, 0xFF] [] (fun s => s) (fun t => (t.e, t.pc)) =
    some (0xFF, 0xC002) ∧
  tick params 0xC000 [0x36, 0x99] [] (fun s => { s with h := 0x80, l := 0x00 }) (fun t => (t.pc, t.byteAt 0x8000)) =
    some (0xC002, 0x99) ∧
  tick params 0xC000 [0x36, 0x55] [] (fun s => { s with h := 0xFE, l := 0xA0 }) (fun t => (t.pc, t.byteAt 0xFEA0, reports t)) =
    some (0xC002, 0x00, [.memoryAccessFault 0xFEA0 0x55 .unusable]) := by decide

/-- V-LD23, V-LD24. -/
theorem test_ld_immediates_2 :
  tick params 0xC000 [0x21, 0x34, 0x12] [] (fun s => s) (fun t => (t.h, t.l, t.pc)) =
    some (0x12, 0x34, 0xC003) ∧
  tick params 0xC000 [0x31, 0x00, 0x00] [] (fun s => s) (fun t => (t.sp, t.pc)) =
    some (0x0000, 0xC003) := by decide

/-- V-LD9, V-LD10, V-LD11. -/
theorem test_ld_accumulator_indirect_1 :
  tick params 0xC000 [0x0A] [(0xFF80, 0x3C)] (fun s => { s with b := 0xFF, c := 0x80 }) (fun t => t.a) =
    some 0x3C ∧
  tick params 0xC000 [0x12] [] (fun s => { s with d := 0xDE, e := 0x00, a := 0x77 }) (fun t => (t.byteAt 0xDE00, t.byteAt 0xFE00)) =
    some (0x77, 0x00) ∧
  tick params 0xC000 [0x02] [] (fun s => { s with b := 0x20, c := 0x00, a := 0x01 }) (fun t => (t.byteAt 0x2000, reports t)) =
    some (0x00, [.mapperWrite 0x2000 0x01, .memoryAccessFault 0x2000 0x01 .rom0]) := by decide

/-- V-LD12, V-LD13. -/
theorem test_ld_accumulator_indirect_2 :
  tick params 0xC000 [0xFA, 0x00, 0xC1] [(0xC100, 0xAB)] (fun s => s) (fun t => t.a) =
    some 0xAB ∧
  tick params 0xC000 [0xEA, 0x05, 0xE0] [] (fun s => { s with a := 0x5C }) (fun t => (t.byteAt 0xE005, t.byteAt 0xC005)) =
    some (0x5C, 0x5C) := by decide

/-- V-LD14, V-LD15. -/
theorem test_ld_high_page_1 :
  tick params 0xC000 [0xE0, 0x80] [] (fun s => { s with a := 0x7F }) (fun t => (t.byteAt 0xFF80)) =
    some 0x7F ∧
  tick params 0xC000 [0xF0, 0xFF] [(0xFFFF, 0x1F)] (fun s => s) (fun t => t.a) =
    some 0x1F := by decide

/-- V-LD16, V-LD17. -/
theorem test_ld_high_page_2 :
  tick params 0xC000 [0xF2] [(0xFF10, 0x80)] (fun s => { s with c := 0x10 }) (fun t => t.a) =
    some 0x80 ∧
  tick params 0xC000 [0xE2] [] (fun s => { s with c := 0xFF, a := 0x1F }) (fun t => (t.byteAt 0xFFFF)) =
    some 0x1F := by decide

/-- V-LD18, V-LD19, V-LD20. -/
theorem test_ld_hl_step_1 :
  tick params 0xC000 [0x22] [] (fun s => { s with h := 0xC0, l := 0xFF, a := 0x33 }) (fun t => (t.h, t.l, t.byteAt 0xC0FF)) =
    some (0xC1, 0x00, 0x33) ∧
  tick params 0xC000 [0x32] [] (fun s => { s with h := 0xC0, l := 0x00, a := 0x44 }) (fun t => (t.h, t.l, t.byteAt 0xC000, t.byteAt 0xE000)) =
    some (0xBF, 0xFF, 0x44, 0x44) ∧
  tick params 0xC000 [0x2A] [(0xFFFF, 0x0E)] (fun s => { s with h := 0xFF, l := 0xFF }) (fun t => (t.a, t.h, t.l)) =
    some (0x0E, 0x00, 0x00) := by decide

/-- V-LD21, V-LD22. -/
theorem test_ld_hl_step_2 :
  tick params 0xC000 [0x3A] [(0x0000, 0x00)] (fun s => { s with h := 0x00, l := 0x00 }) (fun t => (t.h, t.l)) =
    some (0xFF, 0xFF) ∧
  tick params 0xC000 [0x22] [] (fun s => { s with h := 0x3F, l := 0xFF, a := 0x09 }) (fun t => (t.h, t.l, t.byteAt 0x3FFF, reports t)) =
    some (0x40, 0x00, 0x00, [.mapperWrite 0x3FFF 0x09, .memoryAccessFault 0x3FFF 0x09 .rom0]) := by decide

/-- V-LD25, V-LD26, V-LD27. -/
theorem test_ld_sp_1 :
  tick params 0xC000 [0x08, 0x00, 0xD0] [] (fun s => { s with sp := 0xFFF8 }) (fun t => (t.byteAt 0xD000, t.byteAt 0xD001, t.byteAt 0xF000, t.byteAt 0xF001)) =
    some (0xF8, 0xFF, 0xF8, 0xFF) ∧
  tick params 0xC000 [0x08, 0xFF, 0xFF] [] (fun s => { s with sp := 0x1234 }) (fun t => (t.byteAt 0xFFFF, t.byteAt 0x0000, reports t)) =
    some (0x34, 0x00, [.mapperWrite 0x0000 0x12, .memoryAccessFault 0x0000 0x12 .rom0]) ∧
  tick params 0xC000 [0xF9] [] (fun s => { s with h := 0xDF, l := 0xF0 }) (fun t => t.sp) =
    some 0xDFF0 := by decide

/-- V-LD28, V-LD29, V-LD30. -/
theorem test_ld_sp_2 :
  tick params 0xC000 [0xF8, 0x02] [] (fun s => { s with sp := 0xFFF8 }) (fun t => (t.f, t.h, t.l)) =
    some (0x00, 0xFF, 0xFA) ∧
  tick params 0xC000 [0xF8, 0xFF] [] (fun s => { s with sp := 0x0000 }) (fun t => (t.f, t.h, t.l)) =
    some (0x00, 0xFF, 0xFF) ∧
  tick params 0xC000 [0xF8, 0x01] [] (fun s => { s with f := 0xF0, sp := 0x00FF }) (fun t => (t.f, t.h)) =
    some (0x30, 0x01) := by decide

/-- V-AR1, V-AR4, V-AR5. -/
theorem test_add_adc_1 :
  tick params 0xC000 [0x80] [] (fun s => { s with a := 0x3A, b := 0xC6 }) (fun t => (t.a, t.f)) =
    some (0x00, 0xB0) ∧
  tick params 0xC000 [0x86] [(0xC100, 0x01)] (fun s => { s with a := 0x0F, h := 0xC1, l := 0x00 }) (fun t => (t.a, t.f)) =
    some (0x10, 0x20) ∧
  tick params 0xC000 [0xC6, 0x00] [] (fun s => { s with a := 0x00, f := 0xF0 }) (fun t => t.f) =
    some 0x80 := by decide

/-- V-AR6, V-AR7, V-AR8. -/
theorem test_add_adc_2 :
  tick params 0xC000 [0x89] [] (fun s => { s with a := 0xE1, c := 0x0F, f := 0x10 }) (fun t => (t.a, t.f)) =
    some (0xF1, 0x20) ∧
  tick params 0xC000 [0xCE, 0xFF] [] (fun s => { s with a := 0x00, f := 0x10 }) (fun t => t.f) =
    some 0xB0 ∧
  tick params 0xC000 [0xCE, 0x0F] [] (fun s => { s with a := 0x00, f := 0x10 }) (fun t => (t.a, t.f)) =
    some (0x10, 0x20) := by decide

/-- V-AR9. -/
theorem test_add_adc_3 :
  tick params 0xC000 [0x8F] [] (fun s => { s with a := 0x80, f := 0x10 }) (fun t => (t.a, t.f)) =
    some (0x01, 0x10) := by decide

/-- V-AR10, V-AR11, V-AR12. -/
theorem test_sub_sbc_1 :
  tick params 0xC000 [0x93] [] (fun s => { s with a := 0x3E, e := 0x3E }) (fun t => (t.a, t.f)) =
    some (0x00, 0xC0) ∧
  tick params 0xC000 [0xD6, 0x0F] [] (fun s => { s with a := 0x3E }) (fun t => (t.a, t.f)) =
    some (0x2F, 0x60) ∧
  tick params 0xC000 [0xD6, 0x40] [] (fun s => { s with a := 0x3E }) (fun t => (t.a, t.f)) =
    some (0xFE, 0x50) := by decide

/-- V-AR14, V-AR16, V-AR17. -/
theorem test_sub_sbc_2 :
  tick params 0xC000 [0x9C] [] (fun s => { s with a := 0x3B, h := 0x2A, f := 0x10 }) (fun t => (t.a, t.f)) =
    some (0x10, 0x40) ∧
  tick params 0xC000 [0xDE, 0xFF] [] (fun s => { s with a := 0x00, f := 0x10 }) (fun t => t.f) =
    some 0xF0 ∧
  tick params 0xC000 [0x9F] [] (fun s => { s with a := 0x12, f := 0x10 }) (fun t => (t.a, t.f)) =
    some (0xFF, 0x70) := by decide

/-- V-AR18, V-AR19, V-AR20. -/
theorem test_cp :
  tick params 0xC000 [0xB8] [] (fun s => { s with a := 0x3C, b := 0x2F }) (fun t => t.f) =
    some 0x60 ∧
  tick params 0xC000 [0xFE, 0x3C] [] (fun s => { s with a := 0x3C }) (fun t => t.f) =
    some 0xC0 ∧
  tick params 0xC000 [0xBE] [(0xC100, 0x40)] (fun s => { s with a := 0x3C, h := 0xC1, l := 0x00 }) (fun t => t.f) =
    some 0x50 := by decide

/-- V-AR21, V-AR22, V-AR23. -/
theorem test_add16_1 :
  tick params 0xC000 [0x09] [] (fun s => { s with h := 0x8A, l := 0x23, b := 0x06, c := 0x05 }) (fun t => (t.f, t.h, t.l)) =
    some (0x20, 0x90, 0x28) ∧
  tick params 0xC000 [0x29] [] (fun s => { s with h := 0x8A, l := 0x23, f := 0x80 }) (fun t => (t.f, t.h, t.l)) =
    some (0xB0, 0x14, 0x46) ∧
  tick params 0xC000 [0x39] [] (fun s => { s with h := 0x00, l := 0x01, sp := 0xFFFF }) (fun t => (t.f, t.l)) =
    some (0x30, 0x00) := by decide

/-- V-AR24, V-AR26. -/
theorem test_add16_2 :
  tick params 0xC000 [0xE8, 0xF8] [] (fun s => { s with f := 0xC0, sp := 0xFFF8 }) (fun t => (t.f, t.sp)) =
    some (0x30, 0xFFF0) ∧
  tick params 0xC000 [0xE8, 0xFF] [] (fun s => { s with sp := 0x0000 }) (fun t => (t.f, t.sp)) =
    some (0x00, 0xFFFF) := by decide

/-- V-DAA1, V-DAA2, V-DAA6. -/
theorem test_daa_add :
  tick params 0xC000 [0x27] [] (fun s => { s with a := 0x3C, f := 0x00 }) (fun t => (t.a, t.f)) =
    some (0x42, 0x00) ∧
  tick params 0xC000 [0x27] [] (fun s => { s with a := 0x9A, f := 0x00 }) (fun t => (t.a, t.f)) =
    some (0x00, 0x90) ∧
  tick params 0xC000 [0x27] [] (fun s => { s with a := 0xFA, f := 0x00 }) (fun t => (t.a, t.f)) =
    some (0x60, 0x10) := by decide

/-- V-DAA4, V-DAA5. -/
theorem test_daa_sub_and_rule_1 :
  tick params 0xC000 [0x27] [] (fun s => { s with a := 0x00, f := 0x10 }) (fun t => (t.a, t.f)) =
    some (0x60, 0x10) ∧
  tick { params with daaCarryRule := .assign } 0xC000 [0x27] [] (fun s => { s with a := 0x00, f := 0x10 }) (fun t => (t.a, t.f)) =
    some (0x60, 0x00) := by decide

/-- V-DAA7, V-DAA8. -/
theorem test_daa_sub_and_rule_2 :
  tick params 0xC000 [0x27] [] (fun s => { s with a := 0x0F, f := 0x60 }) (fun t => (t.a, t.f)) =
    some (0x09, 0x40) ∧
  tick params 0xC000 [0x27] [] (fun s => { s with a := 0xA0, f := 0x50 }) (fun t => (t.a, t.f)) =
    some (0x40, 0x50) := by decide

/-- V-LG1, V-LG2, V-LG4. -/
theorem test_and_xor_1 :
  tick params 0xC000 [0xE6, 0x0F] [] (fun s => { s with a := 0x5A, f := 0x10 }) (fun t => (t.a, t.f)) =
    some (0x0A, 0x20) ∧
  tick params 0xC000 [0xA6] [(0xC100, 0xA5)] (fun s => { s with a := 0x5A, h := 0xC1, l := 0x00 }) (fun t => (t.a, t.f)) =
    some (0x00, 0xA0) ∧
  tick params 0xC000 [0xA9] [] (fun s => { s with a := 0xFF, c := 0x0F, f := 0x70 }) (fun t => (t.a, t.f)) =
    some (0xF0, 0x00) := by decide

/-- V-LG5, V-LG6. -/
theorem test_and_xor_2 :
  tick params 0xC000 [0xAF] [] (fun s => { s with a := 0x9C, f := 0x30 }) (fun t => (t.a, t.f)) =
    some (0x00, 0x80) ∧
  tick params 0xC000 [0xEE, 0xFF] [] (fun s => { s with a := 0xFF }) (fun t => (t.a, t.f)) =
    some (0x00, 0x80) := by decide

/-- V-LG7, V-LG8. -/
theorem test_or_cpl_1 :
  tick params 0xC000 [0xB2] [] (fun s => { s with a := 0x5A, d := 0x03, f := 0x70 }) (fun t => (t.a, t.f)) =
    some (0x5B, 0x00) ∧
  tick params 0xC000 [0xF6, 0x00] [] (fun s => { s with a := 0x00 }) (fun t => t.f) =
    some 0x80 := by decide

/-- V-LG9, V-LG10. -/
theorem test_or_cpl_2 :
  tick params 0xC000 [0x2F] [] (fun s => { s with a := 0x35, f := 0x00 }) (fun t => (t.a, t.f)) =
    some (0xCA, 0x60) ∧
  tick params 0xC000 [0x2F] [] (fun s => { s with a := 0xFF, f := 0x90 }) (fun t => (t.a, t.f)) =
    some (0x00, 0xF0) := by decide

/-- V-ID1, V-ID2, V-ID3. -/
theorem test_inc_dec_1 :
  tick params 0xC000 [0x04] [] (fun s => { s with b := 0x0F, f := 0x00 }) (fun t => (t.f, t.b)) =
    some (0x20, 0x10) ∧
  tick params 0xC000 [0x3C] [] (fun s => { s with a := 0xFF, f := 0x10 }) (fun t => (t.a, t.f)) =
    some (0x00, 0xB0) ∧
  tick params 0xC000 [0x34] [(0xC100, 0x7F)] (fun s => { s with h := 0xC1, l := 0x00 }) (fun t => (t.f, t.byteAt 0xC100, t.byteAt 0xE100)) =
    some (0x20, 0x80, 0x80) := by decide

/-- V-ID4, V-ID5, V-ID7. -/
theorem test_inc_dec_2 :
  tick params 0xC000 [0x34] [(0x0100, 0xFF)] (fun s => { s with h := 0x01, l := 0x00 }) (fun t => (t.f, t.byteAt 0x0100, reports t)) =
    some (0xA0, 0xFF, [.mapperWrite 0x0100 0x00, .memoryAccessFault 0x0100 0x00 .rom0]) ∧
  tick params 0xC000 [0x0D] [] (fun s => { s with c := 0x00, f := 0x10 }) (fun t => (t.f, t.c)) =
    some (0x70, 0xFF) ∧
  tick params 0xC000 [0x35] [(0xC100, 0x10)] (fun s => { s with h := 0xC1, l := 0x00 }) (fun t => (t.f, t.byteAt 0xC100)) =
    some (0x60, 0x0F) := by decide

/-- V-ID8, V-ID9. -/
theorem test_inc_dec_pair_1 :
  tick params 0xC000 [0x03] [] (fun s => { s with b := 0x00, c := 0xFF, f := 0xA0 }) (fun t => (t.b, t.c)) =
    some (0x01, 0x00) ∧
  tick params 0xC000 [0x33] [] (fun s => { s with sp := 0xFFFF }) (fun t => t.sp) =
    some 0x0000 := by decide

/-- V-ID10, V-ID11. -/
theorem test_inc_dec_pair_2 :
  tick params 0xC000 [0x2B] [] (fun s => { s with h := 0x00, l := 0x01 }) (fun t => t.l) =
    some 0x00 ∧
  tick params 0xC000 [0x1B] [] (fun s => { s with d := 0x00, e := 0x00, f := 0x50 }) (fun t => (t.d, t.e)) =
    some (0xFF, 0xFF) := by decide

/-- V-CF1, V-CF2, V-CF3. -/
theorem test_jp_1 :
  tick params 0xC000 [0xC3, 0x00, 0x02] [] (fun s => s) (fun t => t.pc) =
    some 0x0200 ∧
  tick params 0xC000 [0xC2, 0x34, 0x12] [] (fun s => { s with f := 0x00 }) (fun t => t.pc) =
    some 0x1234 ∧
  tick params 0xC000 [0xC2, 0x34, 0x12] [] (fun s => { s with f := 0x80 }) (fun t => t.pc) =
    some 0xC003 := by decide

/-- V-CF4, V-CF5. -/
theorem test_jp_2 :
  tick params 0xC000 [0xDA, 0x00, 0x00] [] (fun s => { s with f := 0x10 }) (fun t => t.pc) =
    some 0x0000 ∧
  tick params 0xC000 [0xE9] [] (fun s => { s with h := 0x40, l := 0x00 }) (fun t => t.pc) =
    some 0x4000 := by decide

/-- V-CF6, V-CF8, V-CF10. -/
theorem test_jr_1 :
  tick params 0xC000 [0x18, 0x05] [] (fun s => s) (fun t => (t.f, t.pc)) =
    some (0x00, 0xC007) ∧
  tick params 0xC000 [0x18, 0x80] [] (fun s => s) (fun t => (t.f, t.pc)) =
    some (0x00, 0xBF82) ∧
  tick params 0xC000 [0x28, 0x10] [] (fun s => { s with f := 0x80 }) (fun t => (t.f, t.pc)) =
    some (0x80, 0xC012) := by decide

/-- V-CF11, V-CF12. -/
theorem test_jr_2 :
  tick params 0xC000 [0x28, 0x10] [] (fun s => { s with f := 0x00 }) (fun t => (t.f, t.pc)) =
    some (0x00, 0xC002) ∧
  tick params 0xC000 [0x30, 0xFC] [] (fun s => { s with f := 0x00 }) (fun t => (t.f, t.pc)) =
    some (0x00, 0xBFFE) := by decide

/-- V-CF13, V-CF14, V-CF15. -/
theorem test_call_rst_1 :
  tick params 0xC000 [0xCD, 0x34, 0x12] [] (fun s => { s with sp := 0xFFFE }) (fun t => (t.pc, t.byteAt 0xFFFD, t.byteAt 0xFFFC)) =
    some (0x1234, 0xC0, 0x03) ∧
  tick params 0xC000 [0xCD, 0x34, 0x12] [] (fun s => { s with sp := 0x0001 }) (fun t => (t.pc, t.byteAt 0x0000, t.byteAt 0xFFFF, reports t)) =
    some (0x1234, 0x00, 0x03, [.mapperWrite 0x0000 0xC0, .memoryAccessFault 0x0000 0xC0 .rom0]) ∧
  tick params 0xC000 [0xDC, 0x34, 0x12] [] (fun s => { s with f := 0x10, sp := 0xD000 }) (fun t => (t.pc, t.byteAt 0xCFFF, t.byteAt 0xCFFE)) =
    some (0x1234, 0xC0, 0x03) := by decide

/-- V-CF16, V-CF22. -/
theorem test_call_rst_2 :
  tick params 0xC000 [0xDC, 0x34, 0x12] [] (fun s => { s with f := 0x00, sp := 0xD000 }) (fun t => (t.pc, t.byteAt 0xCFFF, t.byteAt 0xCFFE)) =
    some (0xC003, 0x00, 0x00) ∧
  tick params 0xC000 [0xDF] [] (fun s => { s with sp := 0xFFFE }) (fun t => (t.pc, t.byteAt 0xFFFD, t.byteAt 0xFFFC)) =
    some (0x0018, 0xC0, 0x01) := by decide

/-- V-CF17, V-CF18, V-CF19. -/
theorem test_ret_1 :
  tick params 0xC000 [0xC9] [(0xD000, 0x03), (0xD001, 0xC0)] (fun s => { s with sp := 0xD000 }) (fun t => (t.sp, t.pc)) =
    some (0xD002, 0xC003) ∧
  tick params 0xC000 [0xC9] [(0xFFFF, 0x34), (0x0000, 0x12)] (fun s => { s with sp := 0xFFFF }) (fun t => (t.sp, t.pc)) =
    some (0x0001, 0x1234) ∧
  tick params 0xC000 [0xC8] [(0xD000, 0x03), (0xD001, 0xC0)] (fun s => { s with f := 0x80, sp := 0xD000 }) (fun t => (t.sp, t.pc)) =
    some (0xD002, 0xC003) := by decide

/-- V-CF20, V-CF21. -/
theorem test_ret_2 :
  tick params 0xC000 [0xC8] [(0xD000, 0x03), (0xD001, 0xC0)] (fun s => { s with f := 0x00, sp := 0xD000 }) (fun t => t.pc) =
    some 0xC001 ∧
  tick params 0xC000 [0xD9] [(0xD000, 0x50), (0xD001, 0x01)] (fun s => { s with sp := 0xD000, ime := false }) (fun t => (t.sp, t.ime, t.pc)) =
    some (0xD002, true, 0x0150) := by decide

/-- V-ST1, V-ST2. -/
theorem test_push_1 :
  tick params 0xC000 [0xC5] [] (fun s => { s with b := 0x12, c := 0x34, sp := 0xFFFE }) (fun t => (t.sp, t.byteAt 0xFFFD, t.byteAt 0xFFFC)) =
    some (0xFFFC, 0x12, 0x34) ∧
  tick params 0xC000 [0xF5] [] (fun s => { s with a := 0x01, f := 0xB0, sp := 0xD000 }) (fun t => (t.sp, t.byteAt 0xCFFF, t.byteAt 0xCFFE, t.byteAt 0xEFFF, t.byteAt 0xEFFE)) =
    some (0xCFFE, 0x01, 0xB0, 0x01, 0xB0) := by decide

/-- V-ST3, V-ST4. -/
theorem test_push_2 :
  tick params 0xC000 [0xD5] [] (fun s => { s with d := 0xAA, e := 0xBB, sp := 0x0000 }) (fun t => (t.sp, t.byteAt 0xFFFF, t.byteAt 0xFFFE)) =
    some (0xFFFE, 0xAA, 0xBB) ∧
  tick params 0xC000 [0xE5] [] (fun s => { s with h := 0xAA, l := 0xBB, sp := 0x8001 }) (fun t => (t.sp, t.byteAt 0x8000, t.byteAt 0x7FFF, reports t)) =
    some (0x7FFF, 0xAA, 0x00, [.mapperWrite 0x7FFF 0xBB, .memoryAccessFault 0x7FFF 0xBB .romx]) := by decide

/-- V-ST5, V-ST6. -/
theorem test_pop_1 :
  tick params 0xC000 [0xD1] [(0xD000, 0x3C), (0xD001, 0x5F)] (fun s => { s with sp := 0xD000 }) (fun t => (t.f, t.d, t.e, t.sp)) =
    some (0x00, 0x5F, 0x3C, 0xD002) ∧
  tick params 0xC000 [0xF1] [(0xD000, 0xFF), (0xD001, 0x12)] (fun s => { s with sp := 0xD000 }) (fun t => (t.a, t.f, t.sp)) =
    some (0x12, 0xF0, 0xD002) := by decide

/-- V-ST7, V-ST8. -/
theorem test_pop_2 :
  tick params 0xC000 [0xE1] [(0xFFFF, 0x01), (0x0000, 0x02)] (fun s => { s with sp := 0xFFFF }) (fun t => (t.f, t.h, t.l, t.sp)) =
    some (0x00, 0x02, 0x01, 0x0001) ∧
  tick params 0xC000 [0xC1] [(0xFFFE, 0x11), (0xFFFF, 0x22)] (fun s => { s with sp := 0xFFFE }) (fun t => (t.f, t.b, t.c, t.sp)) =
    some (0x00, 0x22, 0x11, 0x0000) := by decide

/-- V-RA1, V-RA3, V-RA4. -/
theorem test_rotate_a_1 :
  tick params 0xC000 [0x07] [] (fun s => { s with a := 0x85 }) (fun t => (t.a, t.f)) =
    some (0x0B, 0x10) ∧
  tick { params with accRotateZ := .result } 0xC000 [0x07] [] (fun s => { s with a := 0x00, f := 0x00 }) (fun t => t.f) =
    some 0x80 ∧
  tick params 0xC000 [0x0F] [] (fun s => { s with a := 0x01 }) (fun t => (t.a, t.f)) =
    some (0x80, 0x10) := by decide

/-- V-RA5, V-RA7, V-RA8. -/
theorem test_rotate_a_2 :
  tick params 0xC000 [0x17] [] (fun s => { s with a := 0x95, f := 0x10 }) (fun t => (t.a, t.f)) =
    some (0x2B, 0x10) ∧
  tick { params with accRotateZ := .result } 0xC000 [0x17] [] (fun s => { s with a := 0x80, f := 0x00 }) (fun t => (t.a, t.f)) =
    some (0x00, 0x90) ∧
  tick params 0xC000 [0x1F] [] (fun s => { s with a := 0x81, f := 0x00 }) (fun t => (t.a, t.f)) =
    some (0x40, 0x10) := by decide

/-- V-MS1, V-MS2, V-MS3. -/
theorem test_nop_halt_stop_1 :
  tick params 0x0100 [0x00] [] (fun s => s) (fun t => t.pc) =
    some 0x0101 ∧
  tick params 0xC000 [0x76] [] (fun s => s) (fun t => (t.halted, t.pc)) =
    some (true, 0xC001) ∧
  tick params 0xC000 [0x10, 0x00] [(0xFFFF, 0x1F)] (fun s => s) (fun t => (t.stopped, t.pc, t.byteAt 0xFFFF)) =
    some (true, 0xC002, 0x00) := by decide

/-- V-MS4, V-MS5. -/
theorem test_nop_halt_stop_2 :
  tick { params with stopClears := .ime } 0xC000 [0x10, 0x00] [(0xFFFF, 0x1F)] (fun s => s) (fun t => (t.ime, t.stopped, t.pc, t.byteAt 0xFFFF)) =
    some (false, true, 0xC002, 0x1F) ∧
  tick { params with stopClears := .both, stopLength := .one } 0xC000 [0x10] [(0xFFFF, 0x1F)] (fun s => s) (fun t => (t.ime, t.stopped, t.pc, t.byteAt 0xFFFF)) =
    some (false, true, 0xC001, 0x00) := by decide

/-- V-MS6, V-MS7, V-MS8. -/
theorem test_di_ei_scf_ccf_1 :
  tick params 0xC000 [0xF3] [] (fun s => { s with ime := true }) (fun t => (t.f, t.ime)) =
    some (0x00, false) ∧
  tick params 0xC000 [0xFB] [] (fun s => { s with ime := false }) (fun t => (t.f, t.ime)) =
    some (0x00, true) ∧
  tick params 0xC000 [0x37] [] (fun s => { s with f := 0xE0 }) (fun t => t.f) =
    some 0x90 := by decide

/-- V-MS9, V-MS10. -/
theorem test_di_ei_scf_ccf_2 :
  tick params 0xC000 [0x3F] [] (fun s => { s with f := 0x70 }) (fun t => t.f) =
    some 0x00 ∧
  tick params 0xC000 [0x3F] [] (fun s => { s with f := 0x80 }) (fun t => t.f) =
    some 0x90 := by decide

/-- V-CB1, V-CB2, V-CB3. -/
theorem test_cb_rotate_1 :
  tick params 0xC000 [0xCB, 0x00] [] (fun s => { s with b := 0x85 }) (fun t => (t.f, t.b)) =
    some (0x10, 0x0B) ∧
  tick params 0xC000 [0xCB, 0x07] [] (fun s => { s with a := 0x00 }) (fun t => t.f) =
    some 0x80 ∧
  tick params 0xC000 [0xCB, 0x09] [] (fun s => { s with c := 0x01 }) (fun t => (t.f, t.c)) =
    some (0x10, 0x80) := by decide

/-- V-CB4, V-CB5, V-CB6. -/
theorem test_cb_rotate_2 :
  tick params 0xC000 [0xCB, 0x13] [] (fun s => { s with e := 0x11, f := 0x10 }) (fun t => (t.f, t.e)) =
    some (0x00, 0x23) ∧
  tick params 0xC000 [0xCB, 0x12] [] (fun s => { s with d := 0x80 }) (fun t => (t.f, t.d)) =
    some (0x90, 0x00) ∧
  tick params 0xC000 [0xCB, 0x1E] [(0xC100, 0x8A)] (fun s => { s with h := 0xC1, l := 0x00 }) (fun t => (t.f, t.byteAt 0xC100)) =
    some (0x00, 0x45) := by decide

/-- V-CB7. -/
theorem test_cb_rotate_3 :
  tick params 0xC000 [0xCB, 0x1C] [] (fun s => { s with h := 0x01 }) (fun t => (t.f, t.h)) =
    some (0x90, 0x00) := by decide

/-- V-CB8, V-CB9, V-CB10. -/
theorem test_cb_shift_1 :
  tick params 0xC000 [0xCB, 0x26] [(0xC100, 0xFF)] (fun s => { s with h := 0xC1, l := 0x00 }) (fun t => (t.f, t.byteAt 0xC100)) =
    some (0x10, 0xFE) ∧
  tick params 0xC000 [0xCB, 0x25] [] (fun s => { s with l := 0x80 }) (fun t => (t.f, t.l)) =
    some (0x90, 0x00) ∧
  tick params 0xC000 [0xCB, 0x2F] [] (fun s => { s with a := 0x8A }) (fun t => (t.a, t.f)) =
    some (0xC5, 0x00) := by decide

/-- V-CB11, V-CB12, V-CB13. -/
theorem test_cb_shift_2 :
  tick params 0xC000 [0xCB, 0x2E] [(0xC100, 0x01)] (fun s => { s with h := 0xC1, l := 0x00 }) (fun t => (t.f, t.byteAt 0xC100)) =
    some (0x90, 0x00) ∧
  tick params 0xC000 [0xCB, 0x30] [] (fun s => { s with b := 0x12 }) (fun t => (t.f, t.b)) =
    some (0x00, 0x21) ∧
  tick params 0xC000 [0xCB, 0x37] [] (fun s => { s with a := 0x00, f := 0x10 }) (fun t => t.f) =
    some 0x80 := by decide

/-- V-CB14, V-CB15. -/
theorem test_cb_shift_3 :
  tick params 0xC000 [0xCB, 0x3E] [(0xC100, 0xFF)] (fun s => { s with h := 0xC1, l := 0x00 }) (fun t => (t.f, t.byteAt 0xC100)) =
    some (0x10, 0x7F) ∧
  tick params 0xC000 [0xCB, 0x3F] [] (fun s => { s with a := 0x01 }) (fun t => (t.a, t.f)) =
    some (0x00, 0x90) := by decide

/-- V-CB16, V-CB17, V-CB18. -/
theorem test_cb_bit :
  tick params 0xC000 [0xCB, 0x7C] [] (fun s => { s with h := 0x80, f := 0x00 }) (fun t => t.f) =
    some 0x20 ∧
  tick params 0xC000 [0xCB, 0x7C] [] (fun s => { s with h := 0x7F, f := 0x10 }) (fun t => t.f) =
    some 0xB0 ∧
  tick params 0xC000 [0xCB, 0x46] [(0xFEA0, 0x01)] (fun s => { s with h := 0xFE, l := 0xA0 }) (fun t => t.f) =
    some 0x20 := by decide

/-- V-CB19, V-CB20, V-CB21. -/
theorem test_cb_res_set_1 :
  tick params 0xC000 [0xCB, 0x87] [] (fun s => { s with a := 0xFF, f := 0xF0 }) (fun t => (t.a, t.f)) =
    some (0xFE, 0xF0) ∧
  tick params 0xC000 [0xCB, 0x9E] [] (fun s => { s with h := 0x00, l := 0x10 }) (fun t => (t.f, t.byteAt 0x0010, reports t)) =
    some (0x00, 0x00, [.mapperWrite 0x0010 0x00, .memoryAccessFault 0x0010 0x00 .rom0]) ∧
  tick params 0xC000 [0xCB, 0xFF] [] (fun s => { s with a := 0x00 }) (fun t => (t.a, t.f)) =
    some (0x80, 0x00) := by decide

/-- V-CB22, V-CB23. -/
theorem test_cb_res_set_2 :
  tick params 0xC000 [0xCB, 0xCE] [] (fun s => { s with h := 0xFE, l := 0xA0 }) (fun t => (t.f, t.byteAt 0xFEA0, reports t)) =
    some (0x00, 0x00, [.memoryAccessFault 0xFEA0 0x02 .unusable]) ∧
  tick params 0xC000 [0xCB, 0xC6] [] (fun s => { s with h := 0xD0, l := 0x00 }) (fun t => (t.f, t.byteAt 0xD000, t.byteAt 0xF000)) =
    some (0x00, 0x01, 0x01) := by decide

/-! ## Events, faults, construction -/

/-- V-EN1: the accesses of CALL in order, by the count and the stack bytes. -/
theorem test_call_events :
    tick params 0xC000 [0xCD, 0x34, 0x12] [] (fun s => { s with sp := 0xD000 }) (fun t => t.log.reverse) =
      some [.sync 4, .sync 8, .sync 12, .sync 16, .sync 20, .sync 20] := by decide

/-- V-EN4: the events of a dropped write in order, the boundary last. -/
theorem test_inc_rom_events :
    tick params 0xC000 [0x34] [] (fun s => { s with h := 0x00, l := 0x10 }) (fun t => t.log.reverse) =
      some [.sync 4, .sync 8, .mapperWrite 0x0010 0x01, .memoryAccessFault 0x0010 0x01 .rom0, .sync 12, .sync 12] := by
  decide

/-- V-EN8: the trace record before the boundary. -/
theorem test_trace_record :
    tick { params with traceSink := true } 0x0100 [0x3E, 0x42] [] (fun s => s) (fun t => t.log.reverse) =
      some [.sync 4, .sync 8,
        .trace { opcode := 0x3E, second := none, pc0 := 0x0100,
                 regs := { a := 0x42, f := 0x00, b := 0x00, c := 0x00, d := 0x00, e := 0x00, h := 0x00, l := 0x00,
                           sp := 0xFFFE, pc := 0x0102, ime := true, halted := false, stopped := false } },
        .sync 8] := by decide

/-- W4: the boundaries of the mirror, by LD (a16),A with A = 5C. -/
theorem test_mirror_boundaries :
    ([(0xC000, 0xE000), (0xDDFF, 0xFDFF), (0xE000, 0xC000), (0xFDFF, 0xDDFF), (0xDE00, 0xFE00), (0xDFFF, 0xFFFF)].map
      fun (w : Word × Word) => tick params 0x8000 [0xEA, lo8 w.1, hi8 w.1] [] (fun s => { s with a := 0x5C })
        (fun t => (t.byteAt w.1, t.byteAt w.2))) =
      [some (0x5C, 0x5C), some (0x5C, 0x5C), some (0x5C, 0x5C), some (0x5C, 0x5C), some (0x5C, 0x00), some (0x5C, 0x00)] := by
  decide

/-- V-MM2 to V-MM8: the last byte of UNUSABLE, and the plain regions. -/
theorem test_store_regions :
    tick params 0xC000 [0x22] [] (fun s => { s with h := 0xFE, l := 0xFF, a := 0x01 })
      (fun t => (t.hl, t.byteAt 0xFEFF, reports t)) = some (0xFF00, 0x00, [.memoryAccessFault 0xFEFF 0x01 .unusable]) ∧
    ([0x9FFF, 0xA000, 0xFE9F, 0xFF00, 0xFFFF].map fun (w : Word) =>
      tick params 0xC000 [0xEA, lo8 w, hi8 w] [] (fun s => { s with a := 0xAA }) (fun t => (t.byteAt w, reports t))) =
      List.replicate 5 (some (0xAA, [])) := by decide

/-- V-EX1: DecodeError, one access, PC back at the byte. -/
theorem test_illegal_byte :
    (match step (place params 0x0100 [0xD3] [] (fun s => s)) with
      | .fault (.decodeError b pc t) => some (b, pc, t.pc, t.log)
      | .next _ | .refused _ => none) = some (0xD3, 0x0100, 0x0100, [.sync 4]) := by decide

/-- V-EN6, V-EN7: no event, nothing changed. -/
theorem test_halted_stopped_tick :
    tick params 0xC000 [0x3C] [] (fun s => { s with halted := true }) (fun t => (t.pc, t.a, t.log)) = some (0xC000, 0x00, []) ∧
    tick params 0xC000 [0x3C] [] (fun s => { s with stopped := true }) (fun t => (t.pc, t.a, t.log)) =
      some (0xC000, 0x00, []) := by decide

/-- V-RS2: construction with an image and parameters. -/
theorem test_construct :
    let s := State.construct { params with romPad := 0xEE, memFill := 0xFF, resetB := 1, resetC := 2, resetD := 3,
                                           resetE := 4, resetH := 5, resetL := 6 } [0xC3, 0x50, 0x01]
    ([0x0000, 0x0001, 0x0002, 0x0003, 0x7FFF, 0x8000, 0xFFFF].map fun (a : Word) => s.byteAt a) =
      [0xC3, 0x50, 0x01, 0xEE, 0xEE, 0xFF, 0xFF] ∧ (s.bc, s.de, s.hl) = (0x0102, 0x0304, 0x0506) := by decide

/-- V-RS1. -/
theorem test_reset :
    State.reset.snapshot =
      { a := 0x00, f := 0x00, b := 0x00, c := 0x00, d := 0x00, e := 0x00, h := 0x00, l := 0x00,
        sp := 0xFFFE, pc := 0x0100, ime := true, halted := false, stopped := false, cycles := 0 } ∧
    State.reset.engineState = .running ∧ State.reset.byteAt 0x0100 = 0x00 := by decide

/-- The host's access is raw (R62): no mirror and no region policy. -/
theorem test_host_access :
    let s := (State.construct params []).hostWrite 0xC123 0x77
    s.hostRead 0xC123 = 0x77 ∧ s.hostRead 0xE123 = 0x00 ∧ (s.hostWrite 0x0000 0x31).hostRead 0x0000 = 0x31 := by
  decide

/-- withFetchWord: the very next tick runs the instruction of the word, at reset. -/
theorem test_withFetchWord :
    (match step (State.reset.withFetchWord 24 0x1234C3) with | .next t => t.pc | .fault _ | .refused _ => 0) = 0x1234 ∧
    (match step (State.reset.withFetchWord 16 0xCBC7) with | .next t => t.a | .fault _ | .refused _ => 0) = 0x01 := by
  decide

/-! ## Witnesses: each obligation's hypotheses hold together somewhere -/

theorem witness_DecodeEncodeRoundTrip : Instr.wellFormed (.callNcA16 0xFFFF) = true := by decide

theorem witness_EncodeDecodeRoundTrip :
    (decode .one [0x21, 0x34, 0x12, 0x99] = .ok (.ldHlD16 0x1234) [0x99] ∧ Instr.ldHlD16 0x1234 ≠ .stop) ∧
    decode .two [0x10, 0xD3] = .ok .stop [] := by decide

theorem witness_UnmappedBytesAreTheElevenIllegal :
    (0xD3 : Byte) ∈ illegalBytes ∧ (0xFD : Byte) ∈ illegalBytes ∧ (0xD2 : Byte) ∉ illegalBytes ∧
    (0xFE : Byte) ∉ illegalBytes ∧ (0x00 : Byte) ∉ illegalBytes ∧ (0xFF : Byte) ∉ illegalBytes := by decide

/-- Each length of R94, and STOP in both. -/
theorem witness_FirstByteFixesLength :
    decode .two [0x00] = .ok .nop [] ∧ decode .two [0xCB, 0x00] = .ok .rlcB [] ∧
    decode .two [0xCD, 0x00, 0x00] = .ok (.callA16 0x0000) [] ∧ decode .one [0x10, 0x00] = .ok .stop [0x00] ∧
    decode .two [0x10, 0x00] = .ok .stop [] := by decide

theorem witness_FlagRegisterLayout : ∃ t, exec .addAA State.reset = .next t := ⟨_, rfl⟩

theorem reset_memOk : State.reset.memOk := by unfold State.memOk; rfl

theorem witness_MoveBetweenRegistersAndHl :
    ¬((6 : Fin 8) = 6 ∧ (7 : Fin 8) = 6) ∧ ¬((7 : Fin 8) = 6 ∧ (6 : Fin 8) = 6) ∧ State.reset.memOk :=
  ⟨by decide, by decide, reset_memOk⟩

theorem witness_LoadImmediateByte : State.reset.memOk := reset_memOk

/-- The boundary addresses of the store: ROM, plain, echo, UNUSABLE. -/
theorem witness_StoreAccumulatorToMemory :
    State.reset.memOk ∧ storeTargets 0x7FFF = [] ∧ storeTargets 0x8000 = [0x8000] ∧
    storeTargets 0xDDFF = [0xDDFF, 0xFDFF] ∧ storeTargets 0xDE00 = [0xDE00] ∧ storeTargets 0xE000 = [0xE000, 0xC000] ∧
    storeTargets 0xFE00 = [0xFE00] ∧ storeTargets 0xFEA0 = [] ∧ storeTargets 0xFEFF = [] ∧ storeTargets 0xFF00 = [0xFF00] :=
  ⟨reset_memOk, by decide⟩

theorem witness_LoadStoreWithHlStep : State.reset.memOk := reset_memOk
theorem witness_SixteenBitLoads : State.reset.memOk := reset_memOk

theorem witness_DecimalAdjustAfterAddIsBcdSum :
    isBcd 0x99 ∧ isBcd 0x00 ∧ ({ State.reset with a := 0x99 } : State).params.daaCarryRule = .or := by
  unfold isBcd; decide

theorem witness_IncrementDecrementByte : State.reset.memOk := reset_memOk

/-- A taken and an untaken condition. -/
theorem witness_CallsPushReturnAddress :
    State.reset.memOk ∧ State.reset.cond .nz = true ∧ State.reset.cond .z = false := ⟨reset_memOk, by decide⟩

theorem witness_PushStoresPair : State.reset.memOk := reset_memOk

/-- The stack at its reset place lies in HRAM. -/
theorem witness_PushThenPopRestores :
    State.reset.memOk ∧ (region (State.reset.sp - 1)).readOnly = false ∧ (region (State.reset.sp - 2)).readOnly = false :=
  ⟨reset_memOk, by decide⟩

/-- The premise, and a state for the clause of the pad byte at 0xFFFF. -/
theorem witness_StopClearsInterruptEnable :
    State.reset.memOk ∧ ({ State.reset with pc := 0x0000 } : State).memOk ∧ State.reset.params.stopLength = .two :=
  ⟨reset_memOk, by unfold State.memOk; rfl, rfl⟩
theorem witness_RotateShiftOperand : State.reset.memOk := reset_memOk

/-- A bit number below 8 for each end of the byte, and a canonical memory. -/
theorem witness_ResetSetOneBit : 0 < 8 ∧ 7 < 8 ∧ State.reset.memOk := ⟨by decide, by decide, reset_memOk⟩

theorem witness_HaltedAndStoppedTicksAreNoOps :
    ({ State.reset with halted := true } : State).halted = true ∧
    ({ State.reset with stopped := true } : State).stopped = true := by decide

/-- The reset state is Running with NOP at PC. -/
theorem witness_StepRunsDecodedInstruction :
    State.reset.running ∧ decode State.reset.params.stopLength State.reset.codeAt = .ok .nop [0x00, 0x00] :=
  ⟨⟨rfl, rfl⟩, by decide⟩

/-- A Running state with an illegal byte at PC. -/
def atIllegal : State := State.reset.hostWrite 0x0100 0xFC

theorem witness_IllegalByteRaisesDecodeError :
    atIllegal.running ∧ atIllegal.byteAt atIllegal.pc ∈ illegalBytes := ⟨⟨rfl, rfl⟩, by decide⟩

theorem reset_step : ∃ t, step State.reset = .next t := ⟨_, rfl⟩

theorem witness_RunStateTransitions :
    State.reset.running ∧ decode State.reset.params.stopLength State.reset.codeAt = .ok .nop [0x00, 0x00] ∧
    ∃ t, step State.reset = .next t := ⟨⟨rfl, rfl⟩, by decide, reset_step⟩

theorem witness_ProgramCounterAdvancesPastInstruction :
    State.reset.running ∧ decode State.reset.params.stopLength State.reset.codeAt = .ok .nop [0x00, 0x00] ∧
    isControlFlow .nop = false ∧ ∃ t, step State.reset = .next t := ⟨⟨rfl, rfl⟩, by decide, by decide, reset_step⟩

/-- A fetch at 0xFFFF leaves PC = 0x0000 (R28); PC after a STOP with its pad byte there by the pseudocode of R292 and by its
corner case; and the pad byte at 0x0000, where they agree. -/
theorem test_stop_pad_at_top :
    (fetchByte { State.reset with pc := 0xFFFF }).2.pc = 0x0000 ∧
    tick params 0xFFFE [0x10, 0x00] [] (fun s => s) (fun t => (t.stopped, t.pc)) = some (true, 0x0000) ∧
    tick { params with stopPadWrap := .cornerCase } 0xFFFE [0x10, 0x00] [] (fun s => s) (fun t => (t.stopped, t.pc)) =
      some (true, 0x0001) ∧
    tick params 0xFFFF [0x10] [] (fun s => s) (fun t => (t.stopped, t.pc)) = some (true, 0x0001) := by decide

/-- A Running state with a STOP of two bytes at 0xFFFE. -/
def atTopStop : State := { State.reset.hostWrite 0xFFFE 0x10 with pc := 0xFFFE }

/-- The clause of STOP with its pad byte at 0xFFFF. -/
theorem witness_ProgramCounterAdvancesPastInstruction_stop :
    atTopStop.running ∧ decode atTopStop.params.stopLength atTopStop.codeAt = .ok .stop [0x00] ∧
    isControlFlow .stop = false ∧ (∃ t, step atTopStop = .next t) ∧ atTopStop.pc = 0xFFFE :=
  ⟨⟨rfl, rfl⟩, by decide, by decide, ⟨_, rfl⟩, rfl⟩

/-- Each of the three clauses: an executed instruction, a DecodeError, a no-op tick. -/
theorem witness_BusAccessTimingTable :
    (State.reset.running ∧ decode State.reset.params.stopLength State.reset.codeAt = .ok .nop [0x00, 0x00]) ∧
    (∃ t, step atIllegal = .fault (.decodeError 0xFC 0x0100 t)) ∧ ¬({ State.reset with halted := true } : State).running :=
  ⟨⟨⟨rfl, rfl⟩, by decide⟩, ⟨_, rfl⟩, by simp [State.running]⟩

/-- Both ends of both ranges. -/
theorem witness_RomAndUnusableNeverChange :
    (∃ t, step State.reset = .next t) ∧
    ([0x0000, 0x7FFF, 0xFEA0, 0xFEFF].all fun (a : Word) =>
      decide (a.toNat ≤ 0x7FFF ∨ (0xFEA0 ≤ a.toNat ∧ a.toNat ≤ 0xFEFF))) = true := ⟨reset_step, by decide⟩

theorem reset_mirrored : State.reset.mirrored := by
  intro a h1 h2
  have e : ∀ b, State.reset.byteAt b = Memory.blank State.reset.params b.toNat := fun _ => rfl
  rw [e, e]
  unfold Memory.blank romWindow
  rw [if_neg (by bv_omega), if_neg (by omega)]

theorem witness_MirrorIsKeptByEveryStep :
    State.reset.memOk ∧ State.reset.mirrored ∧ ∃ t, step State.reset = .next t := ⟨reset_memOk, reset_mirrored, reset_step⟩

theorem witness_StepKeepsInvariant : State.reset.Inv ∧ ∃ t, step State.reset = .next t :=
  ⟨⟨reset_memOk, by decide, by simp [State.reset, Params.default], by decide⟩, reset_step⟩

theorem witness_ConstructionMeetsInvariant : 1 ≤ params.cyclesPerAccess := by decide

theorem witness_ParametersAreFixed : ∃ t, step State.reset = .next t := reset_step

/-- Two different states that differ only in the trace sink and the events. -/
theorem witness_OutcomeIndependentOfCollaborators :
    let t : State := { State.reset with log := [.sync 0], params := { Params.default with traceSink := true } }
    State.reset.bare = t.bare ∧ State.reset.log ≠ t.log := ⟨rfl, by decide⟩

theorem witness_OutcomeIndependentOfTiming :
    let s := State.construct params []
    let t := State.construct { params with cyclesPerAccess := 3 } []
    s.untimed = t.untimed ∧ s.params.cyclesPerAccess ≠ t.params.cyclesPerAccess := ⟨rfl, by decide⟩

theorem witness_OutcomeIndependentOfInterruptMaster :
    let t : State := { State.reset with ime := false }
    State.reset.maskless = t.maskless ∧ State.reset.ime ≠ t.ime := ⟨rfl, by decide⟩

end Sys2Proof.Tests
end

section
/-! The registers and flags of 10_state.md: the pairs as views (R22, R23) and the layout of F (R24). -/

namespace Sys2Proof.Machine

/-! ## What instructions store in F -/

/-- F is as before, or its low nibble is 0 (R24). Every elementary effect of an instruction has this property, and it
composes along a path of effects. -/
def FKeptOrLowNibbleZero (s t : State) : Prop := t.f = s.f ∨ t.f &&& 0x0F = 0

theorem FKeptOrLowNibbleZero.of_f_eq {s t : State} (h : t.f = s.f) : FKeptOrLowNibbleZero s t := .inl h

theorem FKeptOrLowNibbleZero.trans {s t u : State} (h : FKeptOrLowNibbleZero s t) (k : FKeptOrLowNibbleZero t u) :
    FKeptOrLowNibbleZero s u := by
  unfold FKeptOrLowNibbleZero at *
  rcases k with kept | low
  · rwa [kept]
  · exact .inr low

@[simp] theorem f_memWrite (a : Word) (v : Byte) (s : State) : (memWrite a v s).f = s.f := s.storePolicy_f a v

/-- Only a register update can write F, and it stores a low nibble of 0. -/
theorem Micro.fKeptOrLowNibbleZero {s t : State} (m : Micro s t) : FKeptOrLowNibbleZero s t := by
  cases m with
  | regs _ quiet => exact quiet.f
  | write a v => exact .of_f_eq (f_memWrite a v s)
  | read | halt | stop | clearIe => exact .of_f_eq rfl

theorem Path.fKeptOrLowNibbleZero {s t : State} (p : Path s t) : FKeptOrLowNibbleZero s t :=
  p.keeps (P := FKeptOrLowNibbleZero s) (fun _ _ m h => h.trans m.fKeptOrLowNibbleZero) (.of_f_eq rfl)

/-- The answer of an instruction is reached by elementary effects. -/
theorem path_of_exec {i : Instr} {s t : State} (h : exec i s = .next t) : Path s t := by
  obtain ⟨u, hu, path⟩ := exec_path s i
  obtain rfl : u = t := Host.Outcome.next.inj (hu.symm.trans h)
  exact path

/-- Settles O8: the layout by the equations of the flag byte, the low nibble by the path of elementary effects that every
instruction takes. -/
theorem flagRegisterLayout : Obligations.FlagRegisterLayout :=
  ⟨Flags.toByte_eq, State.flags_eq, fun _ _ _ h => (path_of_exec h).fKeptOrLowNibbleZero⟩

/-! ## Pairs -/

/-- Settles O6: a pair is its two bytes joined, and a pair write stores the word's high and low byte. -/
theorem pairsAreViewsOfRegisters : Obligations.PairsAreViewsOfRegisters := by
  intro s v
  refine ⟨concat16_toNat s.b s.c, concat16_toNat s.d s.e, concat16_toNat s.h s.l, concat16_toNat s.a s.f, ?_⟩
  rw [← hi8_eq_ofNat, ← lo8_eq_ofNat]
  exact ⟨⟨rfl, rfl, rfl, rfl⟩, rfl, rfl, rfl, rfl⟩

end Sys2Proof.Machine
end

section
/-! The encoding rules of 30_encoding.md: an instruction's length and its first byte (R80, R94). -/

namespace Sys2Proof

theorem StopLength.toNat_bounds (sl : StopLength) : 1 ≤ sl.toNat ∧ sl.toNat ≤ 2 := by
  cases sl <;> simp [StopLength.toNat]

/-- A row of the length table is 3, 2, STOP's own length or 1 (R94). -/
theorem opcodeLength_bounds (sl : StopLength) (b : Byte) : 1 ≤ opcodeLength sl b ∧ opcodeLength sl b ≤ 3 := by
  obtain ⟨one_le, le_two⟩ := StopLength.toNat_bounds sl
  rw [opcodeLength]
  split
  case isTrue three => decide
  case isFalse notThree =>
    split
    case isTrue two => decide
    case isFalse notTwo =>
      split
      case isTrue stop => exact ⟨one_le, by omega⟩
      case isFalse other => decide

end Sys2Proof

namespace Sys2Proof.Machine

/-- Settles O4: the decoder takes as many bytes as the table gives the first byte, and every row of the table is between 1
and 3. -/
theorem firstByteFixesLength : Obligations.FirstByteFixesLength := by
  intro sl b l rest i h
  exact ⟨length_of_decode h, opcodeLength_bounds sl b⟩

end Sys2Proof.Machine
end

section
/-! The engine of 40_engine.md: the no-op tick (R102) and the conditions (R110). -/

namespace Sys2Proof.Machine

/-! ## The no-op tick -/

/-- A Halted or Stopped tick takes the no-op branch. -/
theorem step_of_not_running {s : State} (h : s.halted = true ∨ s.stopped = true) : step s = .next s := by
  have noOp : (s.stopped || s.halted) = true := (Bool.or_eq_true ..).mpr h.symm
  rw [step, if_pos noOp]

/-- A fixed point of the step is a fixed point of every run. -/
theorem run_of_step_eq_self {M : Host.Core} {s : M.State} (h : M.step s = .next s) (k : Nat) :
    M.run k s = .next s := by
  induction k with
  | zero => rfl
  | succ k ih => simpa only [Host.Core.run, h] using ih

/-- Settles O44: the tick leaves the state where it is, so the state is a fixed point of the step and of every run. -/
theorem haltedAndStoppedTicksAreNoOps : Obligations.HaltedAndStoppedTicksAreNoOps := by
  intro s notRunning
  have fixed : step s = .next s := step_of_not_running notRunning
  exact ⟨fixed, run_of_step_eq_self (M := core) fixed⟩

/-! ## The conditions -/

theorem State.cond_nz (s : State) : s.cond .nz = !s.zFlag := rfl

theorem State.cond_z (s : State) : s.cond .z = s.zFlag := rfl

theorem State.cond_nc (s : State) : s.cond .nc = !s.cFlag := rfl

theorem State.cond_c (s : State) : s.cond .c = s.cFlag := rfl

/-- A condition reads F and nothing else. -/
theorem State.cond_congr {s t : State} (h : t.f = s.f) (cc : Cond) : t.cond cc = s.cond cc := by
  have flags : t.flags = s.flags := congrArg Flags.ofByte h
  cases cc <;> simp only [State.cond, flags]

@[simp] theorem State.f_afterFetch (n : Nat) (s : State) : (State.afterFetch n s).f = s.f := by
  induction n generalizing s with
  | zero => rfl
  | succ n ih => exact ih _

/-- Settles O9: each condition is a flag of F or its negation, and a fetch does not write F. -/
theorem conditionsReadZeroAndCarry : Obligations.ConditionsReadZeroAndCarry := by
  intro s
  rw [s.cond_nz, s.cond_z, s.cond_nc, s.cond_c]
  exact ⟨.of_eq (Bool.not_eq_true' _), .rfl, .of_eq (Bool.not_eq_true' _), .rfl,
    fun cc n => State.cond_congr (State.f_afterFetch n s) cc⟩

end Sys2Proof.Machine
end

section
/-! The decoder on a byte given by its fields or by its row (30_encoding.md R82, R88, R97). -/

namespace Sys2Proof

/-! ## The fields of a byte -/

/-- The byte with the fields x, y and z (R82). -/
def byteOfFields (x : Nat) (y z : Fin 8) : Byte := BitVec.ofNat 8 (64 * x + (8 * y.val + z.val))

theorem toNat_byteOfFields {x : Nat} (hx : x < 4) (y z : Fin 8) :
    (byteOfFields x y z).toNat = 64 * x + (8 * y.val + z.val) := by
  rw [byteOfFields, BitVec.toNat_ofNat]
  omega

theorem fieldX_byteOfFields {x : Nat} (hx : x < 4) (y z : Fin 8) : fieldX (byteOfFields x y z) = x := by
  rw [fieldX, toNat_byteOfFields hx]
  omega

theorem fieldY_byteOfFields {x : Nat} (hx : x < 4) (y z : Fin 8) : fieldY (byteOfFields x y z) = y := by
  apply Fin.ext
  simp only [fieldY, toNat_byteOfFields hx]
  omega

theorem fieldZ_byteOfFields {x : Nat} (hx : x < 4) (y z : Fin 8) : fieldZ (byteOfFields x y z) = z := by
  apply Fin.ext
  simp only [fieldZ, toNat_byteOfFields hx]
  omega

/-! ## Decoding by the verdict on the first byte -/

variable {sl : StopLength} {b : Byte}

theorem decode_of_op {i : Instr} (h : decodePrimary b = .op i) (rest : List Byte) :
    decode sl (b :: rest) = .ok i rest := by
  simp only [decode, h]

theorem decode_of_imm8 {mk : Byte → Instr} (h : decodePrimary b = .imm8 mk) (v : Byte) (rest : List Byte) :
    decode sl (b :: v :: rest) = .ok (mk v) rest := by
  simp only [decode, h]

/-- The operand word is written low byte first (R83). -/
theorem decode_of_imm16 {mk : Word → Instr} (h : decodePrimary b = .imm16 mk) (lo hi : Byte) (rest : List Byte) :
    decode sl (b :: lo :: hi :: rest) = .ok (mk (BitVec.ofNat 16 (256 * hi.toNat + lo.toNat))) rest := by
  simp only [decode, h, imm16_eq_ofNat]

/-! ## The loads by their fields -/

/-- Quadrant 1 holds the moves (R88). -/
theorem decodePrimary_ld (y z : Fin 8) :
    decodePrimary (byteOfFields 1 y z) = .op (Instr.ld (.ofCode y) (.ofCode z)) := by
  have hx : 1 < 4 := by decide
  simp only [decodePrimary, fieldX_byteOfFields hx, fieldY_byteOfFields hx, fieldZ_byteOfFields hx]

/-- Row z = 6 of quadrant 0 holds the immediate loads (R88). -/
theorem decodePrimary_ldImm (y : Fin 8) : decodePrimary (byteOfFields 0 y 6) = .imm8 (Instr.ldImm (.ofCode y)) := by
  have hx : 0 < 4 := by decide
  simp only [decodePrimary, fieldX_byteOfFields hx, fieldY_byteOfFields hx, fieldZ_byteOfFields hx, decodeQuadrant0]

end Sys2Proof
end

section
/-! The loads of 41_load.md (R150 to R172). -/

namespace Sys2Proof.Machine

/-! ## What the shared load operations do -/

theorem loadA_eq (a : Word) (s : State) : loadA a s = { s.afterRead with a := s.byteAt a } := rfl

/-- A load of A from a high-page address (R83). -/
theorem loadA_highPage (n : Byte) (s : State) :
    loadA (highPage n) s = { s.afterRead with a := s.byteAt (BitVec.ofNat 16 (0xFF00 + n.toNat)) } := by
  rw [← highPage_eq, loadA_eq]

/-- The load is made at the old HL, and the step is of the old HL (R167, R168). -/
theorem loadAStep_eq (f : Word → Word) (s : State) :
    loadAStep f s = { s.afterRead with a := s.byteAt s.hl }.setPair .hl (f s.hl) := rfl

/-- The step of HL is made on whatever the store left, dropped or not (R165, R166). -/
theorem storeAStep_eq (f : Word → Word) (s : State) :
    storeAStep f s = (storeA s.hl s).setPair .hl (f s.hl) := rfl

/-- HL and F are separate, so the order of the two updates does not show (R172). -/
theorem loadHlSp_eq (e : Byte) (s : State) :
    loadHlSp e s = { s with
        f := flagByte false false (decide (s.sp.toNat % 16 + e.toNat % 16 ≥ 16)) (decide (s.sp.toNat % 256 + e.toNat ≥ 256))
      }.setPair .hl (BitVec.ofInt 16 (s.sp.toNat + sext e)) := by
  rw [loadHlSp, addsp_eq]
  exact State.setFlags_eq ..

section
variable {s : State} (hm : s.memOk)
include hm

theorem cpuWrite_storeA (a : Word) : CpuWrite a s.a s (storeA a s) := cpuWrite_memWrite hm a s.a

/-- A store of A at a high-page address (R83). -/
theorem cpuWrite_storeA_highPage (n : Byte) :
    CpuWrite (BitVec.ofNat 16 (0xFF00 + n.toNat)) s.a s (storeA (highPage n) s) := by
  rw [← highPage_eq]
  exact cpuWrite_storeA hm _

theorem cpuWrite_move_hlInd (r : Reg8) : CpuWrite s.hl (s.reg r) s (move .hlInd (.reg r) s) :=
  cpuWrite_memWrite hm s.hl (s.reg r)

/-- The two bytes of SP are two CPU writes, the second in the memory the first leaves canonical (R170). -/
theorem cpuWrites_storeSp (a : Word) :
    ∃ t, CpuWrite a (BitVec.ofNat 8 s.sp.toNat) s t ∧
      CpuWrite (a + 1) (BitVec.ofNat 8 (s.sp.toNat / 256)) t (storeSp a s) := by
  rw [← lo8_eq_ofNat, ← hi8_eq_ofNat]
  exact ⟨_, cpuWrite_memWrite hm _ _, cpuWrite_memWrite (memOk_memWrite hm _ _) _ _⟩

end

/-! ## Moves and immediates -/

/-- Settles O10: the words by their fields, the effects by `move`. -/
theorem moveBetweenRegistersAndHl : Obligations.MoveBetweenRegistersAndHl := by
  refine ⟨fun sl y z _ => ?word, fun s =>
    ⟨fun dst src => ?regReg, fun dst => ?regHl, fun r hm => ⟨_, ?hlReg, cpuWrite_move_hlInd hm r⟩⟩⟩
  case word =>
    have fields : 0x40 + BitVec.ofNat 8 (8 * y.val + z.val) = byteOfFields 1 y z := (BitVec.ofNat_add ..).symm
    rw [fields]
    exact decode_of_op (decodePrimary_ld y z) []
  case regReg => exact exec_ld _ _ (by simp) s
  case regHl => exact exec_ld _ _ (by simp) s
  case hlReg => exact exec_ld _ _ (by simp) s

/-- Settles O11: the words by their fields, the effects by the write of the operand. -/
theorem loadImmediateByte : Obligations.LoadImmediateByte := by
  refine ⟨fun sl y v => ?word, fun s v =>
    ⟨fun r => exec_ldImm (.reg r) v s, fun hm => ⟨_, exec_ldImm .hlInd v s, cpuWrite_memWrite hm s.hl v⟩⟩⟩
  have fields : BitVec.ofNat 8 (8 * y.val + 6) = byteOfFields 0 y 6 := by simp [byteOfFields]
  rw [fields]
  exact decode_of_imm8 (decodePrimary_ldImm y) v []

/-! ## The accumulator and memory -/

/-- Settles O12: every form is `loadA` at its address. -/
theorem loadAccumulatorFromMemory : Obligations.LoadAccumulatorFromMemory := by
  refine ⟨fun sl lo hi => ⟨decode_of_op rfl _, decode_of_op rfl _, decode_of_imm16 rfl _ _ _, decode_of_imm8 rfl _ _,
    decode_of_op rfl _⟩, fun s => ⟨?bc, ?de, fun a => ?a16, fun n => ?a8, ?c⟩⟩
  case bc => exact congrArg Host.Outcome.next (loadA_eq s.bc s)
  case de => exact congrArg Host.Outcome.next (loadA_eq s.de s)
  case a16 => exact congrArg Host.Outcome.next (loadA_eq a s)
  case a8 => exact congrArg Host.Outcome.next (loadA_highPage n s)
  case c => exact congrArg Host.Outcome.next (loadA_highPage s.c s)

/-- Settles O13: every form is `storeA` at its address. -/
theorem storeAccumulatorToMemory : Obligations.StoreAccumulatorToMemory :=
  ⟨fun _ _ _ => ⟨decode_of_op rfl _, decode_of_op rfl _, decode_of_imm16 rfl _ _ _, decode_of_imm8 rfl _ _,
      decode_of_op rfl _⟩,
    fun s hm => ⟨⟨_, rfl, cpuWrite_storeA hm s.bc⟩, ⟨_, rfl, cpuWrite_storeA hm s.de⟩,
      fun a => ⟨_, rfl, cpuWrite_storeA hm a⟩, fun n => ⟨_, rfl, cpuWrite_storeA_highPage hm n⟩,
      ⟨_, rfl, cpuWrite_storeA_highPage hm s.c⟩⟩⟩

/-- Settles O14: HL is stepped on the state after the access, which is made at the old HL. -/
theorem loadStoreWithHlStep : Obligations.LoadStoreWithHlStep := by
  refine ⟨fun sl => ⟨decode_of_op rfl _, decode_of_op rfl _, decode_of_op rfl _, decode_of_op rfl _⟩,
    fun s => ⟨?loadInc, ?loadDec, fun hm => ?stores⟩⟩
  case loadInc => exact congrArg Host.Outcome.next (loadAStep_eq inc16 s)
  case loadDec => exact congrArg Host.Outcome.next (loadAStep_eq dec16 s)
  case stores =>
    have write : CpuWrite s.hl s.a s (storeA s.hl s) := cpuWrite_storeA hm s.hl
    exact ⟨⟨_, congrArg Host.Outcome.next (storeAStep_eq inc16 s), write⟩,
      ⟨_, congrArg Host.Outcome.next (storeAStep_eq dec16 s), write⟩⟩

/-! ## The 16-bit loads -/

/-- Settles O15: the pair loads are pair writes, and the two forms with SP are `loadHlSp` and `storeSp`. -/
theorem sixteenBitLoads : Obligations.SixteenBitLoads := by
  refine ⟨fun sl lo hi => ⟨⟨decode_of_imm16 rfl _ _ _, decode_of_imm16 rfl _ _ _, decode_of_imm16 rfl _ _ _,
      decode_of_imm16 rfl _ _ _, decode_of_imm16 rfl _ _ _⟩, decode_of_op rfl _, decode_of_imm8 rfl _ _⟩,
    fun s => ⟨fun v => ⟨rfl, rfl, rfl, rfl⟩, rfl, fun e => congrArg Host.Outcome.next (loadHlSp_eq e s), fun hm a => ?stores⟩⟩
  obtain ⟨t, low, high⟩ := cpuWrites_storeSp hm a
  exact ⟨t, _, rfl, low, high⟩

end Sys2Proof.Machine
end

section
/-! The 8-bit ALU rows by their fields (30_encoding.md R88): quadrant 2 and the immediate row of quadrant 3. -/

namespace Sys2Proof

/-- Quadrant 2 holds the ALU operations on a register or (HL) (R88). -/
theorem decodePrimary_alu (y z : Fin 8) :
    decodePrimary (byteOfFields 2 y z) = .op (Instr.alu (.ofCode y) (.ofCode z)) := by
  have hx : 2 < 4 := by decide
  simp only [decodePrimary, fieldX_byteOfFields hx, fieldY_byteOfFields hx, fieldZ_byteOfFields hx]

/-- Row z = 6 of quadrant 3 holds the immediate ALU operations (R88). -/
theorem decodePrimary_aluImm (y : Fin 8) : decodePrimary (byteOfFields 3 y 6) = .imm8 (Instr.aluImm (.ofCode y)) := by
  have hx : 3 < 4 := by decide
  simp only [decodePrimary, fieldX_byteOfFields hx, fieldY_byteOfFields hx, fieldZ_byteOfFields hx, decodeQuadrant3]

end Sys2Proof
end

section
/-! The arithmetic of 42_arithmetic.md (R180 to R197). -/

namespace Sys2Proof.Machine

/-! ## The three forms of an 8-bit ALU operation -/

/-- Operation code y has its words at rows y of quadrants 2 and 3, and all three forms are `aluA` on their operand. -/
theorem aluForms_of_aluA (y : Fin 8) {effect : Byte → State → State} (h : ∀ v s, aluA (.ofCode y) v s = effect v s) :
    AluForms (.ofCode y) (byteOfFields 2 y 0) (byteOfFields 3 y 6) effect := by
  refine ⟨fun sl k => ?word, fun sl v => decode_of_imm8 (decodePrimary_aluImm y) v [],
    fun s => ⟨fun r => ?reg, ?hlInd, fun v => ?imm⟩⟩
  case word =>
    have fields : byteOfFields 2 y 0 + BitVec.ofNat 8 k.val = byteOfFields 2 y k := by
      simp only [byteOfFields, ← BitVec.ofNat_add, Fin.val_zero, Nat.add_zero, Nat.add_assoc]
    rw [fields]
    exact decode_of_op (decodePrimary_alu y k) []
  case reg => rw [exec_alu, ← h]; rfl
  case hlInd => rw [exec_alu, ← h]; rfl
  case imm => rw [exec_aluImm, h]

/-- The state after an ALU operation, from the result and the flags of its primitive. -/
theorem aluA_of_aluResult {op : AluOp} {v r : Byte} {s : State} {z n h c : Bool}
    (result : aluResult op s.a v s.flags.c = (r, ⟨z, n, h, c⟩)) :
    aluA op v s = { s with a := r, f := flagByte z n h c } := by
  rw [aluA, result]
  exact State.setFlags_eq ..

/-- The difference without a borrow from before (R112). -/
theorem sub8_false (a b : Byte) :
    sub8 a b false =
      (a - b, ⟨decide (a = b), true, decide (a.toNat % 16 < b.toNat % 16), decide (a.toNat < b.toNat)⟩) := by
  have difference : BitVec.ofInt 8 ((a.toNat : Int) - b.toNat) = a - b := by
    apply BitVec.eq_of_toNat_eq
    rw [BitVec.toNat_ofInt, BitVec.toNat_sub]
    omega
  have zero : a.toNat = b.toNat % 256 ↔ a = b := by rw [Nat.mod_eq_of_lt b.isLt, BitVec.toNat_inj]
  simp [sub8_eq, difference, zero]

/-- Settles O16: the 9-bit sum without a carry from before. -/
theorem addSetsSumAndFlags : Obligations.AddSetsSumAndFlags :=
  aluForms_of_aluA 0 fun v s => aluA_of_aluResult (add8_eq s.a v false)

/-- Settles O17: the one 9-bit sum with the old carry. -/
theorem adcSetsNineBitSumAndFlags : Obligations.AdcSetsNineBitSumAndFlags :=
  aluForms_of_aluA 1 fun v s => aluA_of_aluResult (add8_eq s.a v s.cFlag)

/-- Settles O18: the difference without a borrow from before. -/
theorem subSetsDifferenceAndFlags : Obligations.SubSetsDifferenceAndFlags :=
  aluForms_of_aluA 2 fun v s => aluA_of_aluResult (sub8_false s.a v)

/-- Settles O20: CP's result is A itself, with the flags of the difference. -/
theorem compareSetsFlagsOnly : Obligations.CompareSetsFlagsOnly := by
  refine aluForms_of_aluA 7 fun v s => aluA_of_aluResult (r := s.a) ?_
  exact congrArg (fun difference => (s.a, difference.2)) (sub8_false s.a v)

/-! ## The 16-bit additions -/

theorem exec_addHl (p : Pair) (s : State) : exec (Instr.addHl p) s = .next (addHl p s) := by
  cases p <;> rfl

/-- HL and F are separate, so the order of the two updates does not show (R195). -/
theorem addHl_eq (p : Pair) (s : State) :
    addHl p s = { s with
        f := flagByte s.zFlag false (decide (s.hl.toNat % 4096 + (s.pair p).toNat % 4096 ≥ 4096))
          (decide (s.hl.toNat + (s.pair p).toNat ≥ 65536)) }.setPair .hl (s.hl + s.pair p) :=
  State.setFlags_eq ..

theorem addSp_eq (e : Byte) (s : State) :
    addSp e s = { s with
        sp := BitVec.ofInt 16 (s.sp.toNat + sext e),
        f := flagByte false false (decide (s.sp.toNat % 16 + e.toNat % 16 ≥ 16))
          (decide (s.sp.toNat % 256 + e.toNat ≥ 256)) } := by
  rw [addSp, addsp_eq]
  exact State.setFlags_eq ..

/-- Settles O22: the words by the decoder's verdict, the effects by `addHl` and `addSp`. -/
theorem sixteenBitAddition : Obligations.SixteenBitAddition := by
  refine ⟨fun sl e => ⟨decode_of_op rfl _, decode_of_op rfl _, decode_of_op rfl _, decode_of_op rfl _,
    decode_of_imm8 rfl _ _⟩, fun s => ⟨fun p => ?hl, fun e => ?sp⟩⟩
  case hl => rw [exec_addHl, addHl_eq]
  case sp => exact congrArg Host.Outcome.next (addSp_eq e s)

/-! ## Decimal adjust -/

theorem ofInt_beq_zero (k : Int) : (BitVec.ofInt 8 k == 0#8) = decide (k % 256 = 0) := by
  have zero : BitVec.ofInt 8 k = 0#8 ↔ k % 256 = 0 := by
    rw [← BitVec.toNat_inj, BitVec.toNat_ofInt, BitVec.toNat_zero]
    omega
  rw [Bool.eq_iff_iff, beq_iff_eq, decide_eq_true_iff, zero]

/-- DAA's byte and flags, from the corrected value and whether it left the byte (R196). -/
theorem daa_of_daaCorrected {rule : DaaCarryRule} {a : Byte} {fl : Flags} {t : Int} {overflow : Bool}
    (corrected : daaCorrected a fl = (t, overflow)) :
    daa rule a fl = (BitVec.ofInt 8 t,
      ⟨decide (t % 256 = 0), fl.n, false, if rule = .or then fl.c || overflow else overflow⟩) := by
  cases rule <;> simp [daa, corrected, ofInt_beq_zero]

theorem daaA_of_daaCorrected {s : State} {t : Int} {overflow : Bool}
    (corrected : daaCorrected s.a s.flags = (t, overflow)) :
    daaA s = { s with
      a := BitVec.ofInt 8 t,
      f := flagByte (decide (t % 256 = 0)) s.nFlag false
        (if s.params.daaCarryRule = .or then s.cFlag || overflow else overflow) } := by
  rw [daaA, daa_of_daaCorrected corrected]
  exact State.setFlags_eq ..

/-- Settles O23: the correction is the one of `daaCorrected_eq`, whose tests are all on the byte before it. -/
theorem decimalAdjust : Obligations.DecimalAdjust :=
  ⟨fun _ => decode_of_op rfl _,
    fun s => congrArg Host.Outcome.next (daaA_of_daaCorrected (daaCorrected_eq s.flags s.a))⟩

end Sys2Proof.Machine
end

section
/-! The logic of 43_logic.md (R200 to R209) and the carry flag of 48_misc.md (R295, R296). -/

namespace Sys2Proof.Machine

/-! ## AND, XOR and OR -/

theorem and8_eq (a b : Byte) : and8 a b = (a &&& b, ⟨decide (a &&& b = 0), false, true, false⟩) := rfl

/-- The exclusive or is 0 exactly when the bytes agree. -/
theorem xor8_eq (a b : Byte) : xor8 a b = (a ^^^ b, ⟨decide (a = b), false, false, false⟩) := by
  have zero : (a ^^^ b == 0) = decide (a = b) := decide_eq_decide.2 BitVec.xor_eq_zero_iff
  rw [xor8, zero]

/-- The or is 0 exactly when both bytes are. -/
theorem or8_eq (a b : Byte) : or8 a b = (a ||| b, ⟨decide (a = 0 ∧ b = 0), false, false, false⟩) := by
  have zero : (a ||| b == 0) = decide (a = 0 ∧ b = 0) := decide_eq_decide.2 BitVec.or_eq_zero_iff
  rw [or8, zero]

/-- Settles O21: the three forms of operation codes 4, 5 and 6, each with the result and flags of its primitive. -/
theorem logicSetsResultAndFlags : Obligations.LogicSetsResultAndFlags :=
  ⟨aluForms_of_aluA 4 fun v s => aluA_of_aluResult (and8_eq s.a v),
    aluForms_of_aluA 5 fun v s => aluA_of_aluResult (xor8_eq s.a v),
    aluForms_of_aluA 6 fun v s => aluA_of_aluResult (or8_eq s.a v)⟩

/-! ## CPL, SCF and CCF -/

/-- The complement of a byte is its distance from 255. -/
theorem xor_ones_eq_ofNat (a : Byte) : a ^^^ 0xFF = BitVec.ofNat 8 (255 - a.toNat) := by
  have complement : a ^^^ 0xFF = ~~~a := BitVec.xor_allOnes
  rw [complement, ← BitVec.toNat_inj, BitVec.toNat_not, BitVec.toNat_ofNat]
  omega

theorem cplA_eq (s : State) :
    cplA s = { s with a := BitVec.ofNat 8 (255 - s.a.toNat), f := flagByte s.zFlag true true s.cFlag } := by
  rw [cplA, xor_ones_eq_ofNat]
  exact State.setFlags_eq ..

/-- Settles O25: each writes F whole, with the flags it keeps read from the old F. -/
theorem complementAndCarryFlag : Obligations.ComplementAndCarryFlag := by
  refine ⟨fun sl => ⟨decode_of_op rfl _, decode_of_op rfl _, decode_of_op rfl _⟩, fun s => ⟨?cpl, ?scf, ?ccf⟩⟩
  case cpl => exact congrArg Host.Outcome.next (cplA_eq s)
  case scf => exact congrArg Host.Outcome.next (s.setFlags_eq s.zFlag false false true)
  case ccf => exact congrArg Host.Outcome.next (s.setFlags_eq s.zFlag false false (!s.cFlag))

end Sys2Proof.Machine
end

section
/-! The increments and decrements of 44_incdec.md (R220 to R225). -/

namespace Sys2Proof

/-- A byte with x = 0 is decoded by the rows of quadrant 0 (R88). -/
theorem decodePrimary_quadrant0 (y z : Fin 8) : decodePrimary (byteOfFields 0 y z) = decodeQuadrant0 y z := by
  have hx : 0 < 4 := by decide
  simp only [decodePrimary, fieldX_byteOfFields hx, fieldY_byteOfFields hx, fieldZ_byteOfFields hx]

theorem byteOfFields_zero (y z : Fin 8) : byteOfFields 0 y z = BitVec.ofNat 8 (8 * y.val + z.val) := by
  rw [byteOfFields, Nat.mul_zero, Nat.zero_add]

/-- The one-byte instruction at row z of quadrant 0, at its opcode (R88). -/
theorem decode_of_quadrant0 {sl : StopLength} {y z : Fin 8} {i : Instr} (h : decodeQuadrant0 y z = .op i) :
    decode sl [BitVec.ofNat 8 (8 * y.val + z.val)] = .ok i [] := by
  rw [← byteOfFields_zero]
  exact decode_of_op ((decodePrimary_quadrant0 y z).trans h) []

end Sys2Proof

namespace Sys2Proof.Machine

/-! ## INC and DEC of a byte -/

/-- F after INC: C is the old C (R113). -/
theorem toByte_inc8 (v : Byte) (s : State) :
    (inc8 v s.flags.c).2.toByte =
      flagByte (decide (v.toNat = 255)) false (decide (v.toNat % 16 = 15)) s.cFlag := by
  rw [inc8_eq, Flags.toByte_eq, State.flags_eq]

/-- F after DEC: C is the old C (R113). -/
theorem toByte_dec8 (v : Byte) (s : State) :
    (dec8 v s.flags.c).2.toByte =
      flagByte (decide (v.toNat = 1)) true (decide (v.toNat % 16 = 0)) s.cFlag := by
  rw [dec8_eq, Flags.toByte_eq, State.flags_eq]

/-- Settles O26: the words by rows 4 and 5 of quadrant 0; INC and DEC both read an operand, write F, and last write the
operand (`updatesOperand_of`), with the result and flags of `inc8` and `dec8`. -/
theorem incrementDecrementByte : Obligations.IncrementDecrementByte := by
  refine ⟨fun sl y => ⟨decode_of_quadrant0 (z := 4) rfl, decode_of_quadrant0 (z := 5) rfl⟩, ?inc, ?dec⟩
  case inc =>
    exact updatesOperand_of (f := inc8) exec_inc (fun v s => congrArg Prod.fst (inc8_eq v s.flags.c)) toByte_inc8
  case dec =>
    exact updatesOperand_of (f := dec8) exec_dec (fun v s => congrArg Prod.fst (dec8_eq v s.flags.c)) toByte_dec8

/-! ## INC and DEC of a pair -/

theorem exec_incPair (p : Pair) (s : State) : exec (Instr.incPair p) s = .next (incPair p s) := by
  cases p <;> rfl

theorem exec_decPair (p : Pair) (s : State) : exec (Instr.decPair p) s = .next (decPair p s) := by
  cases p <;> rfl

theorem inc16_eq (v : Word) : inc16 v = BitVec.ofNat 16 (v.toNat + 1) := by
  rw [inc16, ← BitVec.toNat_inj, BitVec.toNat_add, BitVec.toNat_ofNat]
  rfl

/-- One less is 65535 more, modulo 65536. -/
theorem dec16_eq (v : Word) : dec16 v = BitVec.ofNat 16 (v.toNat + 65535) := by
  rw [dec16, ← BitVec.toNat_inj, BitVec.toNat_sub, BitVec.toNat_ofNat, Nat.add_comm]
  rfl

/-- Settles O27: the words by the decoder's verdict, the effects by the one pair write of `incPair` and `decPair`. -/
theorem incrementDecrementPair : Obligations.IncrementDecrementPair := by
  refine ⟨fun sl => ⟨decode_of_op rfl _, decode_of_op rfl _, decode_of_op rfl _, decode_of_op rfl _,
    decode_of_op rfl _, decode_of_op rfl _, decode_of_op rfl _, decode_of_op rfl _⟩, fun s p => ⟨?inc, ?dec⟩⟩
  case inc => rw [exec_incPair, incPair, inc16_eq]
  case dec => rw [exec_decPair, decPair, dec16_eq]

end Sys2Proof.Machine
end

section
/-! The control flow of 45_control.md (R240 to R251). -/

namespace Sys2Proof

/-! ## The words of RST -/

/-- A byte with x = 3 is decoded by the rows of quadrant 3 (R88). -/
theorem decodePrimary_quadrant3 (y z : Fin 8) : decodePrimary (byteOfFields 3 y z) = decodeQuadrant3 y z := by
  have hx : 3 < 4 := by decide
  simp only [decodePrimary, fieldX_byteOfFields hx, fieldY_byteOfFields hx, fieldZ_byteOfFields hx]

/-- The opcodes of RST are eight apart, from 0xC7 on (R88). -/
theorem byteOfFields_rst (y : Fin 8) : byteOfFields 3 y 7 = 0xC7 + BitVec.ofNat 8 (8 * y.val) := by
  have fields : 64 * 3 + (8 * y.val + 7) = 0xC7 + 8 * y.val := by omega
  exact (congrArg (BitVec.ofNat 8) fields).trans (BitVec.ofNat_add ..)

theorem decode_rst (sl : StopLength) (y : Fin 8) :
    decode sl [0xC7 + BitVec.ofNat 8 (8 * y.val)] = .ok (Instr.rst y) [] := by
  rw [← byteOfFields_rst]
  exact decode_of_op (decodePrimary_quadrant3 y 7) []

end Sys2Proof

namespace Sys2Proof.Machine

/-! ## Jumps -/

theorem exec_jpCond (cc : Cond) (t : Word) (s : State) :
    exec (Instr.jpCond cc t) s = .next (jumpIf (s.cond cc) t s) := by
  cases cc <;> rfl

theorem exec_jrCond (cc : Cond) (e : Byte) (s : State) :
    exec (Instr.jrCond cc e) s = .next (jumpRelIf (s.cond cc) e s) := by
  cases cc <;> rfl

/-- A jump not taken leaves PC where it is (R241). -/
theorem jumpIf_eq (taken : Bool) (t : Word) (s : State) :
    jumpIf taken t s = { s with pc := if taken then t else s.pc } := by
  cases taken <;> rfl

theorem jumpRel_eq (e : Byte) (s : State) :
    jumpRel e s = { s with pc := BitVec.ofInt 16 (s.pc.toNat + sext e) } := by
  rw [jumpRel, add_sext16, jump]

/-- A relative jump is a jump to its target, taken or not (R244). -/
theorem jumpRelIf_eq_jumpIf (taken : Bool) (e : Byte) (s : State) :
    jumpRelIf taken e s = jumpIf taken (BitVec.ofInt 16 (s.pc.toNat + sext e)) s := by
  rw [jumpRelIf, jumpRel_eq, jumpIf, jump]

/-- Settles O28: the words by the decoder's verdict; JP and JP HL are `jump`, and JP cc is `jumpIf`. -/
theorem absoluteJumps : Obligations.AbsoluteJumps := by
  refine ⟨fun sl lo hi => ⟨⟨decode_of_imm16 rfl _ _ _, decode_of_imm16 rfl _ _ _, decode_of_imm16 rfl _ _ _,
      decode_of_imm16 rfl _ _ _, decode_of_imm16 rfl _ _ _⟩, decode_of_op rfl _⟩,
    fun s t => ⟨rfl, rfl, fun cc => ?cond⟩⟩
  rw [exec_jpCond, jumpIf_eq]

/-- Settles O29: PC and the sign-extended displacement add up to their integer sum modulo 65536 (`add_sext16`). -/
theorem relativeJumps : Obligations.RelativeJumps := by
  refine ⟨fun sl e => ⟨decode_of_imm8 rfl _ _, decode_of_imm8 rfl _ _, decode_of_imm8 rfl _ _, decode_of_imm8 rfl _ _,
    decode_of_imm8 rfl _ _⟩, fun s e => ⟨?always, fun cc => ?cond⟩⟩
  case always => exact congrArg Host.Outcome.next (jumpRel_eq e s)
  case cond => rw [exec_jrCond, jumpRelIf_eq_jumpIf, jumpIf_eq]

/-! ## Calls -/

theorem exec_callCond (cc : Cond) (t : Word) (s : State) :
    exec (Instr.callCond cc t) s = .next (callIf (s.cond cc) t s) := by
  cases cc <;> rfl

theorem exec_rst (y : Fin 8) (s : State) :
    exec (Instr.rst y) s = .next (call (BitVec.ofNat 16 (8 * y.val)) s) := by
  fin_cases y <;> rfl

/-- An instruction that answers `call t` pushes PC, then jumps to `t` (R245, R251). -/
theorem pushes_of_exec_call {i : Instr} {t : Word} {s : State} (hm : s.memOk) (h : exec i s = .next (call t s)) :
    ∃ u, exec i s = .next { u with pc := t } ∧ Pushes s.pc s u :=
  ⟨push16 s.pc s, h, pushes_push16 hm s.pc⟩

/-- Settles O30: CALL, CALL cc when taken, and RST all answer `call`; CALL cc not taken answers the state it was given. -/
theorem callsPushReturnAddress : Obligations.CallsPushReturnAddress := by
  refine ⟨fun sl lo hi => ⟨decode_of_imm16 rfl _ _ _, decode_of_imm16 rfl _ _ _, decode_of_imm16 rfl _ _ _,
      decode_of_imm16 rfl _ _ _, decode_of_imm16 rfl _ _ _⟩, decode_rst,
    fun s hm => ⟨fun t => pushes_of_exec_call hm rfl, fun cc t => ⟨fun taken => ?taken, fun notTaken => ?notTaken⟩,
      fun y => pushes_of_exec_call hm (exec_rst y s)⟩⟩
  case taken =>
    have answer : exec (Instr.callCond cc t) s = .next (call t s) := by rw [exec_callCond, taken, callIf, if_pos rfl]
    exact pushes_of_exec_call hm answer
  case notTaken => rw [exec_callCond, notTaken, callIf, if_neg Bool.false_ne_true]

/-! ## Returns -/

theorem exec_retCond (cc : Cond) (s : State) : exec (Instr.retCond cc) s = .next (retIf (s.cond cc) s) := by
  cases cc <;> rfl

/-- Settles O31: every form is `ret`, whose pop is two bus reads and SP + 2 (`ret_eq`); RETI also sets IME. -/
theorem returnsPopProgramCounter : Obligations.ReturnsPopProgramCounter := by
  refine ⟨fun sl => ⟨decode_of_op rfl _, decode_of_op rfl _, decode_of_op rfl _, decode_of_op rfl _,
    decode_of_op rfl _, decode_of_op rfl _⟩, fun s => ⟨?ret, ?reti, fun cc => ?cond⟩⟩
  case ret => exact congrArg Host.Outcome.next (ret_eq s)
  case reti => exact congrArg (fun t : State => Host.Outcome.next { t with ime := true }) (ret_eq s)
  case cond => rw [exec_retCond, retIf, ret_eq]

end Sys2Proof.Machine
end

section
/-! The stack instructions of 46_stack.md (R262, R263). -/

namespace Sys2Proof.Machine

theorem exec_push (p : StackPair) (s : State) : exec (Instr.push p) s = .next (push16 (s.stackPair p) s) := by
  cases p <;> rfl

theorem exec_pop (p : StackPair) (s : State) : exec (Instr.pop p) s = .next (popPair p s) := by
  cases p <;> rfl

/-- R263, with the pop as two bus reads and SP + 2 (R261). -/
theorem popPair_eq (p : StackPair) (s : State) : popPair p s = s.afterPop.setStackPair p s.stackTop := by
  rw [popPair, pop16_eq]

/-- Settles O32: every form is `push16` of its pair, which is two CPU writes and SP - 2 (`pushes_push16`). -/
theorem pushStoresPair : Obligations.PushStoresPair :=
  ⟨fun _ => ⟨decode_of_op rfl _, decode_of_op rfl _, decode_of_op rfl _, decode_of_op rfl _⟩,
    fun s hm p => ⟨push16 (s.stackPair p) s, exec_push p s, pushes_push16 hm (s.stackPair p)⟩⟩

/-- Settles O33: every form is `popPair`, a pair write of the word at the top of the stack (`popPair_eq`). -/
theorem popLoadsNamedPair : Obligations.PopLoadsNamedPair := by
  refine ⟨fun sl => ⟨decode_of_op rfl _, decode_of_op rfl _, decode_of_op rfl _, decode_of_op rfl _⟩, fun s p => ?effect⟩
  rw [exec_pop, popPair_eq]

end Sys2Proof.Machine
end

section
/-! The accumulator rotates of 47_rotate.md (R280 to R283). -/

namespace Sys2Proof.Machine

/-- `shift` in numbers, with Z held at 0 unless `ACC_ROTATE_Z` lets it follow the result. -/
theorem accRotate_eq (rule : AccRotateZ) (op : ShiftOp) (v : Byte) (c : Bool) :
    accRotate rule op v c = (BitVec.ofNat 8 (shiftValue op v.toNat c),
      ⟨decide (rule = .result ∧ shiftValue op v.toNat c = 0), false, false, shiftCarry op v.toNat⟩) := by
  cases rule with
  | clear => simp [accRotate, shift_eq]
  | result => simp [accRotate, shift_eq]

theorem rotateA_eq (op : ShiftOp) (s : State) :
    rotateA op s = { s with
      a := BitVec.ofNat 8 (shiftValue op s.a.toNat s.cFlag),
      f := flagByte (decide (s.params.accRotateZ = .result ∧ shiftValue op s.a.toNat s.cFlag = 0)) false false
        (shiftCarry op s.a.toNat) } := by
  rw [rotateA, accRotate_eq]
  exact State.setFlags_eq ..

/-- Settles O35: the words by the decoder's verdict; each of the four is `rotateA` of its operation. -/
theorem accumulatorRotates : Obligations.AccumulatorRotates :=
  ⟨fun _ => ⟨decode_of_op rfl _, decode_of_op rfl _, decode_of_op rfl _, decode_of_op rfl _⟩,
    fun s => ⟨congrArg Host.Outcome.next (rotateA_eq .rlc s), congrArg Host.Outcome.next (rotateA_eq .rrc s),
      congrArg Host.Outcome.next (rotateA_eq .rl s), congrArg Host.Outcome.next (rotateA_eq .rr s)⟩⟩

end Sys2Proof.Machine
end

section
/-! NOP, HALT, DI and EI of 48_misc.md (R290, R291, R293, R294). -/

namespace Sys2Proof.Machine

/-- Settles O36: the words by the decoder's verdict, the four effects by definition, and the tick after HALT by the no-op
tick (`step_of_not_running`). -/
theorem nopHaltDiEi : Obligations.NopHaltDiEi := by
  refine ⟨fun sl => ⟨decode_of_op rfl _, decode_of_op rfl _, decode_of_op rfl _, decode_of_op rfl _⟩, fun s => ?effects⟩
  have haltedTick : step { s with halted := true } = .next { s with halted := true } := step_of_not_running (.inl rfl)
  exact ⟨rfl, rfl, haltedTick, rfl, rfl⟩

end Sys2Proof.Machine
end

section
/-! Every instruction once, by the families of the decoder: its length in bytes and the operation it performs. What holds of
every instruction is proved by the cases of `Meaning`, and the decoder's rows say that it leaves no instruction out. -/

namespace Sys2Proof.Machine

/-- `Meaning sl n i f`: an instruction `i` of `n` bytes, under the given `STOP_LENGTH`, whose effect is the operation `f`. -/
inductive Meaning (sl : StopLength) : Nat → Instr → (State → State) → Prop where
  -- loads
  | ld (d o : Operand8) (h : ¬(d = .hlInd ∧ o = .hlInd)) : Meaning sl 1 (Instr.ld d o) (move d o)
  | ldImm (d : Operand8) (v : Byte) : Meaning sl 2 (Instr.ldImm d v) (write8 d v)
  | ldPair (p : Pair) (v : Word) : Meaning sl 3 (Instr.ldPair p v) (·.setPair p v)
  | ldIndA16Sp (a : Word) : Meaning sl 3 (.ldIndA16Sp a) (storeSp a)
  | ldSpHl : Meaning sl 1 .ldSpHl fun s => { s with sp := s.hl }
  | ldHlSpE8 (e : Byte) : Meaning sl 2 (.ldHlSpE8 e) (loadHlSp e)
  | ldAIndBc : Meaning sl 1 .ldAIndBc fun s => loadA s.bc s
  | ldAIndDe : Meaning sl 1 .ldAIndDe fun s => loadA s.de s
  | ldAIndA16 (a : Word) : Meaning sl 3 (.ldAIndA16 a) (loadA a)
  | ldhAIndA8 (n : Byte) : Meaning sl 2 (.ldhAIndA8 n) (loadA (highPage n))
  | ldAIndC : Meaning sl 1 .ldAIndC fun s => loadA (highPage s.c) s
  | ldIndBcA : Meaning sl 1 .ldIndBcA fun s => storeA s.bc s
  | ldIndDeA : Meaning sl 1 .ldIndDeA fun s => storeA s.de s
  | ldIndA16A (a : Word) : Meaning sl 3 (.ldIndA16A a) (storeA a)
  | ldhIndA8A (n : Byte) : Meaning sl 2 (.ldhIndA8A n) (storeA (highPage n))
  | ldIndCA : Meaning sl 1 .ldIndCA fun s => storeA (highPage s.c) s
  | ldAIndHlInc : Meaning sl 1 .ldAIndHlInc (loadAStep inc16)
  | ldAIndHlDec : Meaning sl 1 .ldAIndHlDec (loadAStep dec16)
  | ldIndHlIncA : Meaning sl 1 .ldIndHlIncA (storeAStep inc16)
  | ldIndHlDecA : Meaning sl 1 .ldIndHlDecA (storeAStep dec16)
  -- arithmetic and logic
  | alu (op : AluOp) (o : Operand8) : Meaning sl 1 (Instr.alu op o) (aluOperand op o)
  | aluImm (op : AluOp) (v : Byte) : Meaning sl 2 (Instr.aluImm op v) (aluA op v)
  | addHl (p : Pair) : Meaning sl 1 (Instr.addHl p) (addHl p)
  | addSpE8 (e : Byte) : Meaning sl 2 (.addSpE8 e) (addSp e)
  | inc (o : Operand8) : Meaning sl 1 (Instr.inc o) (incOperand o)
  | dec (o : Operand8) : Meaning sl 1 (Instr.dec o) (decOperand o)
  | incPair (p : Pair) : Meaning sl 1 (Instr.incPair p) (incPair p)
  | decPair (p : Pair) : Meaning sl 1 (Instr.decPair p) (decPair p)
  | daa : Meaning sl 1 .daa daaA
  | cpl : Meaning sl 1 .cpl cplA
  | scf : Meaning sl 1 .scf fun s => s.setFlags { s.flags with n := false, h := false, c := true }
  | ccf : Meaning sl 1 .ccf fun s => s.setFlags { s.flags with n := false, h := false, c := !s.flags.c }
  | rlca : Meaning sl 1 .rlca (rotateA .rlc)
  | rrca : Meaning sl 1 .rrca (rotateA .rrc)
  | rla : Meaning sl 1 .rla (rotateA .rl)
  | rra : Meaning sl 1 .rra (rotateA .rr)
  -- control flow and stack
  | jpA16 (t : Word) : Meaning sl 3 (.jpA16 t) (jump t)
  | jpHl : Meaning sl 1 .jpHl fun s => jump s.hl s
  | jpCond (cc : Cond) (t : Word) : Meaning sl 3 (Instr.jpCond cc t) fun s => jumpIf (s.cond cc) t s
  | jrE8 (e : Byte) : Meaning sl 2 (.jrE8 e) (jumpRel e)
  | jrCond (cc : Cond) (e : Byte) : Meaning sl 2 (Instr.jrCond cc e) fun s => jumpRelIf (s.cond cc) e s
  | callA16 (t : Word) : Meaning sl 3 (.callA16 t) (call t)
  | callCond (cc : Cond) (t : Word) : Meaning sl 3 (Instr.callCond cc t) fun s => callIf (s.cond cc) t s
  | rst (y : Fin 8) : Meaning sl 1 (Instr.rst y) (call (BitVec.ofNat 16 (8 * y.val)))
  | ret : Meaning sl 1 .ret ret
  | reti : Meaning sl 1 .reti fun s => { ret s with ime := true }
  | retCond (cc : Cond) : Meaning sl 1 (Instr.retCond cc) fun s => retIf (s.cond cc) s
  | push (p : StackPair) : Meaning sl 1 (Instr.push p) fun s => push16 (s.stackPair p) s
  | pop (p : StackPair) : Meaning sl 1 (Instr.pop p) (popPair p)
  -- miscellaneous
  | nop : Meaning sl 1 .nop fun s => s
  | halt : Meaning sl 1 .halt fun s => { s with halted := true }
  | stop : Meaning sl sl.toNat .stop fun s => stopWrap (stopClear { s with stopped := true })
  | di : Meaning sl 1 .di fun s => { s with ime := false }
  | ei : Meaning sl 1 .ei fun s => { s with ime := true }
  -- the secondary table
  | shift (op : ShiftOp) (o : Operand8) : Meaning sl 2 (Instr.shift op o) (cbShift op o)
  | bit (k : Fin 8) (o : Operand8) : Meaning sl 2 (Instr.bit k o) (cbBit k o)
  | res (k : Fin 8) (o : Operand8) : Meaning sl 2 (Instr.res k o) (cbRes k o)
  | set (k : Fin 8) (o : Operand8) : Meaning sl 2 (Instr.set k o) (cbSet k o)

/-- The operation is what exec runs. -/
theorem Meaning.exec_eq {sl : StopLength} {n : Nat} {i : Instr} {f : State → State} (m : Meaning sl n i f) (s : State) :
    exec i s = .next (f s) := by
  cases m with
  | ld d o h => exact exec_ld d o h s
  | ldImm d v => exact exec_ldImm d v s
  | ldPair p v => cases p <;> rfl
  | alu op o => exact exec_alu op o s
  | aluImm op v => exact exec_aluImm op v s
  | addHl p => exact exec_addHl p s
  | inc o => exact exec_inc o s
  | dec o => exact exec_dec o s
  | incPair p => exact exec_incPair p s
  | decPair p => exact exec_decPair p s
  | jpCond cc t => exact exec_jpCond cc t s
  | jrCond cc e => exact exec_jrCond cc e s
  | callCond cc t => exact exec_callCond cc t s
  | rst y => exact exec_rst y s
  | retCond cc => exact exec_retCond cc s
  | push p => exact exec_push p s
  | pop p => exact exec_pop p s
  | shift op o => exact exec_shift op o s
  | bit k o => exact exec_bit k o s
  | res k o => exact exec_res k o s
  | set k o => exact exec_set k o s
  | ldIndA16Sp | ldSpHl | ldHlSpE8 | ldAIndBc | ldAIndDe | ldAIndA16 | ldhAIndA8 | ldAIndC | ldIndBcA | ldIndDeA | ldIndA16A
  | ldhIndA8A | ldIndCA | ldAIndHlInc | ldAIndHlDec | ldIndHlIncA | ldIndHlDecA | addSpE8 | daa | cpl | scf | ccf | rlca
  | rrca | rla | rra | jpA16 | jpHl | jrE8 | callA16 | ret | reti | nop | halt | stop | di | ei => rfl

/-- An instruction has one operation. -/
theorem Meaning.unique {sl sl' : StopLength} {n n' : Nat} {i : Instr} {f f' : State → State} (m : Meaning sl n i f)
    (m' : Meaning sl' n' i f') : f = f' :=
  funext fun s => Host.Outcome.next.inj ((m.exec_eq s).symm.trans (m'.exec_eq s))

/-- A verdict on the first byte `b`: the instructions it leads to have a meaning of the length that the format gives, and
their encoding begins with `b` and goes on with the operand bytes. -/
inductive PrimaryRow (sl : StopLength) (b : Byte) : Primary → Prop where
  | unmapped : PrimaryRow sl b .unmapped
  | escape (hb : b = 0xCB) : PrimaryRow sl b .escape
  | op {i : Instr} {f : State → State} (m : Meaning sl 1 i f) (he : encode sl i = [b]) : PrimaryRow sl b (.op i)
  | opPad (hb : b = 0x10) : PrimaryRow sl b (.opPad .stop)
  | imm8 {mk : Byte → Instr} {f : Byte → State → State} (m : ∀ v, Meaning sl 2 (mk v) (f v))
      (he : ∀ v, encode sl (mk v) = [b, v]) : PrimaryRow sl b (.imm8 mk)
  | imm16 {mk : Word → Instr} {f : Word → State → State} (m : ∀ v, Meaning sl 3 (mk v) (f v))
      (he : ∀ v, encode sl (mk v) = [b, lo8 v, hi8 v]) : PrimaryRow sl b (.imm16 mk)

/-- The rows of quadrant 0 (R88). -/
theorem primaryRow_quadrant0 (sl : StopLength) (y z : Fin 8) :
    PrimaryRow sl (byteOfFields 0 y z) (decodeQuadrant0 y z) :=
  match z with
  | 0 =>
    match y with
    | 0 => .op .nop rfl
    | 1 => .imm16 .ldIndA16Sp fun _ => rfl
    | 2 => .opPad rfl
    | 3 => .imm8 .jrE8 fun _ => rfl
    | 4 | 5 | 6 | 7 => .imm8 (.jrCond _) fun _ => rfl
  | 1 =>
    match y with
    | 0 | 2 | 4 | 6 => .imm16 (.ldPair _) fun _ => rfl
    | 1 | 3 | 5 | 7 => .op (.addHl _) rfl
  | 2 =>
    match y with
    | 0 => .op .ldIndBcA rfl
    | 1 => .op .ldAIndBc rfl
    | 2 => .op .ldIndDeA rfl
    | 3 => .op .ldAIndDe rfl
    | 4 => .op .ldIndHlIncA rfl
    | 5 => .op .ldAIndHlInc rfl
    | 6 => .op .ldIndHlDecA rfl
    | 7 => .op .ldAIndHlDec rfl
  | 3 =>
    match y with
    | 0 | 2 | 4 | 6 => .op (.incPair _) rfl
    | 1 | 3 | 5 | 7 => .op (.decPair _) rfl
  | 4 => .op (.inc (.ofCode y)) (by fin_cases y <;> rfl)
  | 5 => .op (.dec (.ofCode y)) (by fin_cases y <;> rfl)
  | 6 => .imm8 (.ldImm (.ofCode y)) fun _ => by fin_cases y <;> rfl
  | 7 =>
    match y with
    | 0 => .op .rlca rfl
    | 1 => .op .rrca rfl
    | 2 => .op .rla rfl
    | 3 => .op .rra rfl
    | 4 => .op .daa rfl
    | 5 => .op .cpl rfl
    | 6 => .op .scf rfl
    | 7 => .op .ccf rfl

/-- Code 6 alone names (HL) (R84). -/
theorem ofCode_eq_hlInd_iff (k : Fin 8) : Operand8.ofCode k = .hlInd ↔ k = 6 := by
  revert k; decide

/-- Quadrant 1 is the moves, with HALT where `LD (HL),(HL)` would stand (R88). -/
theorem primaryRow_quadrant1 (sl : StopLength) (y z : Fin 8) :
    PrimaryRow sl (byteOfFields 1 y z) (.op (Instr.ld (.ofCode y) (.ofCode z))) := by
  by_cases h : y = 6 ∧ z = 6
  · obtain ⟨rfl, rfl⟩ := h
    exact .op .halt rfl
  · have code : ¬(Operand8.ofCode y = .hlInd ∧ Operand8.ofCode z = .hlInd) := by simpa only [ofCode_eq_hlInd_iff] using h
    have enc : encode sl (Instr.ld (.ofCode y) (.ofCode z)) = [byteOfFields 1 y z] := by
      cases sl <;> revert y z <;> decide +kernel
    exact .op (.ld _ _ code) enc

/-- Quadrant 2 is the ALU operations (R88). -/
theorem primaryRow_quadrant2 (sl : StopLength) (y z : Fin 8) :
    PrimaryRow sl (byteOfFields 2 y z) (.op (Instr.alu (.ofCode y) (.ofCode z))) :=
  .op (.alu _ _) (by cases sl <;> revert y z <;> decide +kernel)

/-- The rows of quadrant 3, with the escape byte and the illegal bytes (R88, R92). -/
theorem primaryRow_quadrant3 (sl : StopLength) (y z : Fin 8) :
    PrimaryRow sl (byteOfFields 3 y z) (decodeQuadrant3 y z) :=
  match z with
  | 0 =>
    match y with
    | 0 | 1 | 2 | 3 => .op (.retCond _) rfl
    | 4 => .imm8 .ldhIndA8A fun _ => rfl
    | 5 => .imm8 .addSpE8 fun _ => rfl
    | 6 => .imm8 .ldhAIndA8 fun _ => rfl
    | 7 => .imm8 .ldHlSpE8 fun _ => rfl
  | 1 =>
    match y with
    | 0 | 2 | 4 | 6 => .op (.pop _) rfl
    | 1 => .op .ret rfl
    | 3 => .op .reti rfl
    | 5 => .op .jpHl rfl
    | 7 => .op .ldSpHl rfl
  | 2 =>
    match y with
    | 0 | 1 | 2 | 3 => .imm16 (.jpCond _) fun _ => rfl
    | 4 => .op .ldIndCA rfl
    | 5 => .imm16 .ldIndA16A fun _ => rfl
    | 6 => .op .ldAIndC rfl
    | 7 => .imm16 .ldAIndA16 fun _ => rfl
  | 3 =>
    match y with
    | 0 => .imm16 .jpA16 fun _ => rfl
    | 1 => .escape rfl
    | 6 => .op .di rfl
    | 7 => .op .ei rfl
    | 2 | 3 | 4 | 5 => .unmapped
  | 4 =>
    match y with
    | 0 | 1 | 2 | 3 => .imm16 (.callCond _) fun _ => rfl
    | 4 | 5 | 6 | 7 => .unmapped
  | 5 =>
    match y with
    | 0 | 2 | 4 | 6 => .op (.push _) rfl
    | 1 => .imm16 .callA16 fun _ => rfl
    | 3 | 5 | 7 => .unmapped
  | 6 => .imm8 (.aluImm (.ofCode y)) fun _ => by fin_cases y <;> rfl
  | 7 => .op (.rst y) (by fin_cases y <;> rfl)

/-- A byte is made of its fields (R82). -/
theorem byteOfFields_fields (b : Byte) : byteOfFields (fieldX b) (fieldY b) (fieldZ b) = b := by
  apply BitVec.eq_of_toNat_eq
  simp only [byteOfFields, fieldX, fieldY, fieldZ, BitVec.toNat_ofNat]
  omega

theorem fieldX_lt (b : Byte) : fieldX b < 4 := by
  simp only [fieldX]
  omega

/-- A fact about every byte, from its four quadrants (R82, R89). -/
theorem byte_quadrants {P : Byte → Prop} (h0 : ∀ y z, P (byteOfFields 0 y z)) (h1 : ∀ y z, P (byteOfFields 1 y z))
    (h2 : ∀ y z, P (byteOfFields 2 y z)) (h3 : ∀ y z, P (byteOfFields 3 y z)) (b : Byte) : P b := by
  rw [← byteOfFields_fields b]
  match fieldX b, fieldX_lt b with
  | 0, _ => exact h0 _ _
  | 1, _ => exact h1 _ _
  | 2, _ => exact h2 _ _
  | 3, _ => exact h3 _ _

/-- Every first byte has its row (R88, R92). -/
theorem primaryRow (sl : StopLength) : ∀ b : Byte, PrimaryRow sl b (decodePrimary b) := by
  refine byte_quadrants (fun y z => ?_) (fun y z => ?_) (fun y z => ?_) (fun y z => ?_)
  · rw [decodePrimary_quadrant0]; exact primaryRow_quadrant0 sl y z
  · rw [decodePrimary_ld]; exact primaryRow_quadrant1 sl y z
  · rw [decodePrimary_alu]; exact primaryRow_quadrant2 sl y z
  · rw [decodePrimary_quadrant3]; exact primaryRow_quadrant3 sl y z

/-! ## The secondary table -/

section
variable (y z : Fin 8)

theorem decodeSecondary_shift : decodeSecondary (byteOfFields 0 y z) = Instr.shift (.ofCode y) (.ofCode z) := by
  have hx : 0 < 4 := by decide
  simp only [decodeSecondary, fieldX_byteOfFields hx, fieldY_byteOfFields hx, fieldZ_byteOfFields hx]

theorem decodeSecondary_bit : decodeSecondary (byteOfFields 1 y z) = Instr.bit y (.ofCode z) := by
  have hx : 1 < 4 := by decide
  simp only [decodeSecondary, fieldX_byteOfFields hx, fieldY_byteOfFields hx, fieldZ_byteOfFields hx]

theorem decodeSecondary_res : decodeSecondary (byteOfFields 2 y z) = Instr.res y (.ofCode z) := by
  have hx : 2 < 4 := by decide
  simp only [decodeSecondary, fieldX_byteOfFields hx, fieldY_byteOfFields hx, fieldZ_byteOfFields hx]

theorem decodeSecondary_set : decodeSecondary (byteOfFields 3 y z) = Instr.set y (.ofCode z) := by
  have hx : 3 < 4 := by decide
  simp only [decodeSecondary, fieldX_byteOfFields hx, fieldY_byteOfFields hx, fieldZ_byteOfFields hx]

end

/-- The effect of a secondary byte is the meaning of the instruction it names (R89 to R91). -/
theorem meaning_decodeSecondary (sl : StopLength) (x : Byte) : Meaning sl 2 (decodeSecondary x) (secondaryOp x) := by
  unfold decodeSecondary secondaryOp
  generalize fieldX x = c
  match c with
  | 0 => exact .shift _ _
  | 1 => exact .bit _ _
  | 2 => exact .res _ _
  | _ + 3 => exact .set _ _

theorem encode_decodeSecondary (sl : StopLength) (x : Byte) : encode sl (decodeSecondary x) = [0xCB, x] := by
  cases sl <;> revert x <;> decide +kernel

/-! ## Decoded instructions -/

section
variable {sl : StopLength} {b : Byte} {l rest : List Byte} {i : Instr}

/-- STOP and the bare escape byte are known by how their encodings begin. -/
theorem ordinary_of_encode (he : encode sl i = b :: l) (hb : b ≠ 0x10) (hl : b = 0xCB → l ≠ []) :
    i ≠ .stop ∧ i ≠ .prefixCb := by
  constructor
  · rintro rfl
    cases sl <;> exact hb (List.cons.inj he).1.symm
  · rintro rfl
    obtain ⟨hcb, hnil⟩ := List.cons.inj he
    exact hl hcb.symm hnil.symm

/-- What was decoded, by the row of its first byte: a meaning of the length that the byte fixes, and either STOP at its
opcode byte or another whole instruction at its encoding. -/
theorem decode_inv (h : decode sl (b :: l) = .ok i rest) :
    (∃ f, Meaning sl (opcodeLength sl b) i f) ∧
      (i = .stop ∧ b = 0x10 ∨ (i ≠ .stop ∧ i ≠ .prefixCb) ∧ b :: l = encode sl i ++ rest) := by
  have row := primaryRow sl b
  rw [opcodeLength_eq]
  simp only [decode] at h
  generalize hp : decodePrimary b = p at h row
  have h10 (hne : ∀ j, p ≠ .opPad j) : b ≠ 0x10 := by rintro rfl; exact hne _ hp.symm
  have hcb (hne : p ≠ .escape) : b ≠ 0xCB := by rintro rfl; exact hne hp.symm
  cases row with
  | unmapped => cases h
  | op m he =>
    cases h
    exact ⟨⟨_, m⟩, .inr ⟨ordinary_of_encode he (h10 nofun) (absurd · (hcb nofun)), by rw [he]; rfl⟩⟩
  | escape hb =>
    subst hb
    match l, h with
    | x :: l, h =>
      cases h
      have he := encode_decodeSecondary sl x
      exact ⟨⟨_, meaning_decodeSecondary sl x⟩, .inr ⟨ordinary_of_encode he (by decide) nofun, by rw [he]; rfl⟩⟩
  | opPad hb => 
    have hi : i = .stop := by
      rcases sl <;> rcases l <;> cases h <;> rfl
    subst hi
    exact ⟨⟨_, .stop⟩, .inl ⟨rfl, hb⟩⟩
  | imm8 m he =>
    match l, h with
    | v :: l, h =>
      cases h
      exact ⟨⟨_, m v⟩, .inr ⟨ordinary_of_encode (he v) (h10 nofun) nofun, by rw [he]; rfl⟩⟩
  | imm16 m he =>
    match l, h with
    | lo :: hi :: l, h =>
      cases h
      exact ⟨⟨_, m _⟩, .inr ⟨ordinary_of_encode (he _) (h10 nofun) nofun, by rw [he]; simp [imm16]⟩⟩

end

end Sys2Proof.Machine
end

section
/-! The decoder and the encoder of 30_encoding.md against each other (R80 to R97). -/

namespace Sys2Proof.Machine

/-! ## Decoding an encoding -/

/-- A row with a word operand gives back the word whose two bytes follow the opcode (R83). -/
theorem decode_lo8_hi8 {sl : StopLength} {b : Byte} {mk : Word → Instr} (h : decodePrimary b = .imm16 mk) (v : Word)
    (rest : List Byte) : decode sl (b :: lo8 v :: hi8 v :: rest) = .ok (mk v) rest := by
  simp only [decode, h, imm16_lo8_hi8]

/-- Row by row: the first byte selects the row, and the operand bytes are read back. -/
theorem decode_encode (sl : StopLength) {i : Instr} (h : i ≠ .prefixCb) (rest : List Byte) :
    decode sl (encode sl i ++ rest) = .ok i rest := by
  cases i
  case prefixCb => exact absurd rfl h
  case stop => cases sl <;> rfl
  case ldBcD16 v | ldDeD16 v | ldHlD16 v | ldSpD16 v | ldIndA16Sp v | ldIndA16A v | ldAIndA16 v | jpA16 v | jpNzA16 v
    | jpZA16 v | jpNcA16 v | jpCA16 v | callA16 v | callNzA16 v | callZA16 v | callNcA16 v | callCA16 v =>
    exact decode_lo8_hi8 rfl v rest
  all_goals rfl

theorem wellFormed_iff (i : Instr) : i.wellFormed = true ↔ i ≠ .prefixCb := decide_eq_true_iff

/-- Settles O1: a well-formed instruction is any but the bare escape byte, and those the rows give back. -/
theorem decodeEncodeRoundTrip : Obligations.DecodeEncodeRoundTrip :=
  fun sl i h => decode_encode sl ((wellFormed_iff i).1 h)

/-! ## Encoding what was decoded -/

/-- Settles O2: by the inversion of the decoder; the length is the one the first byte fixes. -/
theorem encodeDecodeRoundTrip : Obligations.EncodeDecodeRoundTrip := by
  intro sl l rest i h
  match l with
  | b :: l =>
    rw [wellFormed_iff]
    obtain ⟨-, ⟨rfl, rfl⟩ | ⟨⟨notStop, whole⟩, bytes⟩⟩ := decode_inv h
    · exact ⟨nofun, absurd rfl, fun _ => ⟨rfl, length_of_decode h⟩⟩
    · exact ⟨whole, fun _ => bytes, fun stop => absurd stop notStop⟩

/-! ## Unmapped bytes -/

/-- A mapped byte and two more hold an instruction of any format (R81). -/
theorem decode_of_mapped (sl : StopLength) {b : Byte} (h : decodePrimary b ≠ .unmapped) (x y : Byte) :
    ∃ i rest, decode sl [b, x, y] = .ok i rest := by
  simp only [decode]
  cases hp : decodePrimary b with
  | unmapped => exact absurd hp h
  | opPad i => cases sl <;> exact ⟨_, _, rfl⟩
  | escape | op | imm8 | imm16 => exact ⟨_, _, rfl⟩

/-- Settles O3: the unmapped bytes are the eleven listed (`unmapped_iff`), and any other decodes by its format. -/
theorem unmappedBytesAreTheElevenIllegal : Obligations.UnmappedBytesAreTheElevenIllegal := by
  intro sl b x y l
  constructor
  · intro illegal
    simp only [decode, (unmapped_iff b).2 illegal]
  · intro legal
    exact decode_of_mapped sl (legal ∘ (unmapped_iff b).1) x y

/-- Settles O5: by computation, word by word. -/
theorem sampleWordsDecode : Obligations.SampleWordsDecode := by
  unfold Obligations.SampleWordsDecode
  decide

end Sys2Proof.Machine
end

section
/-! The tick of 40_engine.md (R100 to R108) and DecodeError (60_exceptions.md R321): the three kinds of a step. -/

namespace Sys2Proof.Machine

/-! ## Parameters -/

theorem Micro.params_eq {s t : State} (m : Micro s t) : t.params = s.params := by
  cases m with
  | regs _ quiet => exact quiet.params
  | write a v => exact s.storePolicy_params a v
  | read | halt | stop | clearIe => rfl

theorem Path.params_eq {s t : State} (p : Path s t) : t.params = s.params :=
  p.keeps (P := fun t => t.params = s.params) (fun _ _ m h => m.params_eq.trans h) rfl

/-- Settles O43: every instruction answers, along a path of elementary effects (`exec_path`), and none writes the
parameters. -/
theorem everyInstructionCompletes : Obligations.EveryInstructionCompletes := by
  intro i s
  obtain ⟨t, answer, path⟩ := exec_path s i
  exact ⟨t, answer, path.params_eq⟩

/-- Settles O55: the parameters are as before after every elementary effect and after the boundary. -/
theorem parametersAreFixed : Obligations.ParametersAreFixed := by
  intro s t h
  refine step_keeps (P := fun t => t.params = s.params) (fun _ _ m hs => m.params_eq.trans hs) (fun s u hu => ?_) h rfl
  rw [boundary_eq]
  exact hu

/-! ## The three kinds of a step -/

theorem not_idle_of_running {s : State} (h : s.running) : ¬(s.stopped || s.halted) = true := by
  obtain ⟨notStopped, notHalted⟩ := h
  simp only [notStopped, notHalted, Bool.or_self, Bool.false_eq_true, not_false_eq_true]

/-- The length of the instruction at PC, by its first byte (R80). -/
def State.codeLength (s : State) : Nat := opcodeLength s.params.stopLength (s.byteAt s.pc)

section
variable {s : State} {i : Instr} {rest : List Byte} (hr : s.running)
include hr

/-- A tick that executes: the bytes of the instruction are fetched, its operation is run, and the boundary ends it. -/
theorem step_of_decode (h : decode s.params.stopLength s.codeAt = .ok i rest) :
    ∃ f, Meaning s.params.stopLength s.codeLength i f ∧
      step s = .next (boundary s (f (State.afterFetch s.codeLength s))) := by
  obtain ⟨⟨f, m⟩, -⟩ := decode_inv h
  refine ⟨f, m, ?_⟩
  rw [step, if_neg (not_idle_of_running hr), fetchInstr_eq h]
  simp only [m.exec_eq, retire, State.codeLength]

/-- A tick at an unmapped byte: one access, and PC back at the byte (R321). -/
theorem step_of_unmapped (h : decodePrimary (s.byteAt s.pc) = .unmapped) :
    step s = .fault (.decodeError (s.byteAt s.pc) s.pc s.afterRead) := by
  rw [step, if_neg (not_idle_of_running hr), fetchInstr_of_unmapped h]
  rfl

end

theorem step_idle {s : State} (h : ¬s.running) : step s = .next s := by
  apply step_of_not_running
  simpa only [State.running, not_and_or, Bool.not_eq_false, or_comm] using h

/-- Every tick is a no-op, executes the instruction at PC, or raises DecodeError (R100 to R102, R321). -/
theorem step_kinds (s : State) :
    ¬s.running ∨
    (s.running ∧ ∃ i rest, decode s.params.stopLength s.codeAt = .ok i rest) ∨
    s.running ∧ decodePrimary (s.byteAt s.pc) = .unmapped := by
  by_cases hr : s.running
  · by_cases hu : decodePrimary (s.byteAt s.pc) = .unmapped
    · exact .inr (.inr ⟨hr, hu⟩)
    · exact .inr (.inl ⟨hr, decode_of_mapped _ hu _ _⟩)
  · exact .inl hr

/-! ## DecodeError -/

/-- Settles O46: the byte is unmapped, both in the state and in the one the tick leaves, where PC and the array are as
before. -/
theorem illegalByteRaisesDecodeError : Obligations.IllegalByteRaisesDecodeError := by
  intro s hr illegal
  have unmapped : decodePrimary (s.byteAt s.pc) = .unmapped := (unmapped_iff _).2 illegal
  exact ⟨step_of_unmapped hr unmapped, step_of_unmapped (s := s.afterRead) hr unmapped⟩

/-- Settles O47: of the three kinds of a step, the no-op and the executed instruction answer a next state. -/
theorem stepStopsOnlyOnIllegalByte : Obligations.StepStopsOnlyOnIllegalByte := by
  intro s
  rcases step_kinds s with idle | ⟨hr, i, rest, h⟩ | ⟨hr, unmapped⟩
  · exact .inl ⟨s, step_idle idle⟩
  · obtain ⟨f, -, answer⟩ := step_of_decode hr h
    exact .inl ⟨_, answer⟩
  · exact .inr ⟨hr, (unmapped_iff _).1 unmapped, _, step_of_unmapped hr unmapped⟩

/-! ## The executed tick -/

/-- The events of the boundary, when the instruction kept the parameters (R108, R340). -/
theorem boundary_of_params_eq {s u : State} (h : u.params = s.params) :
    boundary s u = { u with log := .sync u.cycles ::
      ((if s.params.traceSink then [.trace (traceRecord s u)] else []) ++ u.log) } := by
  rw [boundary, ← h]
  cases u.params.traceSink <;> rfl

/-- Settles O45: the executed tick runs the operation of the instruction after its fetch, and the operation keeps the
parameters, which say whether a trace sink is attached. -/
theorem stepRunsDecodedInstruction : Obligations.StepRunsDecodedInstruction := by
  intro s i rest hr h
  obtain ⟨f, m, answer⟩ := step_of_decode hr h
  have ran : exec i (State.afterFetch s.codeLength s) = .next (f (State.afterFetch s.codeLength s)) := m.exec_eq _
  have params := (path_of_exec ran).params_eq.trans (State.params_afterFetch s.codeLength s)
  exact ⟨_, ran, answer.trans (congrArg Host.Outcome.next (boundary_of_params_eq params))⟩

end Sys2Proof.Machine
end

section
/-! The run state (40_engine.md R101) and PC (10_state.md R28) after an executed instruction. -/

namespace Sys2Proof.Machine

/-! ## What an operation does to PC and the run state -/

/-- The run state is as before. -/
structure RunStateKept (s t : State) : Prop where
  halted : t.halted = s.halted
  stopped : t.stopped = s.stopped

theorem Stays.runStateKept {s t : State} (h : Stays s t) : RunStateKept s t := ⟨h.halted, h.stopped⟩

theorem stays_setPair (s : State) (p : Pair) (v : Word) : Stays s (s.setPair p v) :=
  ⟨s.setPair_pc p v, s.setPair_halted p v, s.setPair_stopped p v⟩

theorem runStateKept_call (t : Word) (s : State) : RunStateKept s (call t s) :=
  ⟨(stays_push16 s s.pc).halted, (stays_push16 s s.pc).stopped⟩

/-- A conditional transfer changes what the transfer changes, or nothing. -/
theorem runStateKept_ite {s t : State} (h : RunStateKept s t) (taken : Bool) :
    RunStateKept s (if taken then t else s) := by
  cases taken
  · exact ⟨rfl, rfl⟩
  · exact h

/-- What an operation does to PC and the run state: HALT and STOP aside, a control-flow instruction keeps the run state, and
any other also keeps PC. -/
inductive PcAndRunState (i : Instr) (f : State → State) : Prop where
  | halt (h : i = .halt)
  | stop (h : i = .stop)
  | flow (h : isControlFlow i = true) (kept : ∀ s, RunStateKept s (f s))
  | plain (kept : ∀ s, Stays s (f s))

theorem Meaning.pc_and_run_state {sl : StopLength} {n : Nat} {i : Instr} {f : State → State} (m : Meaning sl n i f) :
    PcAndRunState i f := by
  cases m with
  | halt => exact .halt rfl
  | stop => exact .stop rfl
  | jpA16 | jpHl | jrE8 | ret | reti => exact .flow rfl fun s => ⟨rfl, rfl⟩
  | jpCond cc t =>
    exact .flow (by cases cc <;> rfl) fun s => runStateKept_ite (s := s) (t := jump t s) ⟨rfl, rfl⟩ _
  | jrCond cc e =>
    exact .flow (by cases cc <;> rfl) fun s => runStateKept_ite (s := s) (t := jumpRel e s) ⟨rfl, rfl⟩ _
  | retCond cc =>
    exact .flow (by cases cc <;> rfl) fun s => runStateKept_ite (s := s) (t := Machine.ret s) ⟨rfl, rfl⟩ _
  | callA16 t => exact .flow rfl (runStateKept_call t)
  | callCond cc t =>
    exact .flow (by cases cc <;> rfl) fun s => runStateKept_ite (runStateKept_call t s) _
  | rst y => exact .flow (by fin_cases y <;> rfl) (runStateKept_call _)
  | ld d o => exact .plain fun s => stays_move s d o
  | ldImm d v => exact .plain fun s => stays_write8 s d v
  | ldPair p v => exact .plain fun s => stays_setPair s p v
  | ldIndA16Sp a => exact .plain fun s => (stays_memWrite s a _).trans (stays_memWrite _ _ _)
  | ldIndBcA | ldIndDeA | ldIndA16A | ldhIndA8A | ldIndCA => exact .plain fun s => stays_memWrite s _ _
  | ldIndHlIncA | ldIndHlDecA => exact .plain fun s => (stays_memWrite s _ _).trans (stays_setPair _ .hl _)
  | alu op o => exact .plain fun s => stays_aluOperand s op o
  | inc o => exact .plain fun s => stays_incOperand s o
  | dec o => exact .plain fun s => stays_decOperand s o
  | incPair p | decPair p => exact .plain fun s => stays_setPair s p _
  | push p => exact .plain fun s => stays_push16 s _
  | pop p => exact .plain fun s => stays_popPair s p
  | shift op o => exact .plain fun s => stays_cbShift s op o
  | bit k o => exact .plain fun s => stays_cbBit s k o
  | res k o => exact .plain fun s => stays_cbRes s k o
  | set k o => exact .plain fun s => stays_cbSet s k o
  | ldSpHl | ldHlSpE8 | ldAIndBc | ldAIndDe | ldAIndA16 | ldhAIndA8 | ldAIndC | ldAIndHlInc | ldAIndHlDec | aluImm | addHl
  | addSpE8 | daa | cpl | scf | ccf | rlca | rrca | rla | rra | nop | di | ei =>
    exact .plain fun s => ⟨rfl, rfl, rfl⟩

theorem Meaning.eq_of_halt {sl : StopLength} {n : Nat} {f : State → State} (m : Meaning sl n .halt f) (s : State) :
    f s = { s with halted := true } :=
  Host.Outcome.next.inj (m.exec_eq s).symm

theorem Meaning.eq_of_stop {sl : StopLength} {n : Nat} {f : State → State} (m : Meaning sl n .stop f) (s : State) :
    f s = stopWrap (stopClear { s with stopped := true }) :=
  Host.Outcome.next.inj (m.exec_eq s).symm

/-- The clear of `STOP_CLEARS` touches neither PC nor the run state (R292). -/
theorem stays_stopClear (s : State) : Stays s (stopClear s) := by
  unfold stopClear
  split <;> exact ⟨rfl, rfl, rfl⟩

/-! ## After the tick -/

/-- The run state after HALT, STOP and every other instruction, executed in the Running state (R101). -/
theorem Meaning.run_state {sl : StopLength} {n : Nat} {i : Instr} {f : State → State} (m : Meaning sl n i f) {s : State}
    (hr : s.running) :
    (f s).halted = decide (i = .halt) ∧ (f s).stopped = decide (i = .stop) := by
  obtain ⟨notStopped, notHalted⟩ := hr
  have others (kept : RunStateKept s (f s)) : (f s).halted = decide (i = .halt) ∧ (f s).stopped = decide (i = .stop) := by
    have halted : (f s).halted = false := kept.halted.trans notHalted
    have stopped : (f s).stopped = false := kept.stopped.trans notStopped
    have ne_halt : i ≠ .halt := by rintro rfl; rw [m.eq_of_halt] at halted; cases halted
    have ne_stop : i ≠ .stop := by
      rintro rfl
      rw [m.eq_of_stop] at stopped
      exact absurd ((stays_stopClear { s with stopped := true }).stopped.symm.trans stopped) nofun
    exact ⟨by rw [halted, decide_eq_false ne_halt], by rw [stopped, decide_eq_false ne_stop]⟩
  rcases m.pc_and_run_state with ⟨rfl⟩ | ⟨rfl⟩ | ⟨-, kept⟩ | ⟨kept⟩
  · rw [m.eq_of_halt]
    exact ⟨rfl, notStopped⟩
  · rw [m.eq_of_stop]
    have kept := stays_stopClear { s with stopped := true }
    exact ⟨kept.halted.trans notHalted, kept.stopped⟩
  · exact others (kept s)
  · exact others (kept s).runStateKept

theorem State.running_afterFetch {s : State} (hr : s.running) (n : Nat) : (State.afterFetch n s).running := by
  induction n generalizing s with
  | zero => exact hr
  | succ n ih => exact ih (s := { s.afterRead with pc := s.pc + 1 }) hr

@[simp] theorem boundary_halted (s u : State) : (boundary s u).halted = u.halted := by rw [boundary_eq]
@[simp] theorem boundary_stopped (s u : State) : (boundary s u).stopped = u.stopped := by rw [boundary_eq]
@[simp] theorem boundary_pc (s u : State) : (boundary s u).pc = u.pc := by rw [boundary_eq]
@[simp] theorem boundary_cycles (s u : State) : (boundary s u).cycles = u.cycles := by rw [boundary_eq]

/-- A tick known to answer `t` answers the executed instruction. -/
theorem next_of_decode {s t : State} {i : Instr} {rest : List Byte} (hr : s.running)
    (h : decode s.params.stopLength s.codeAt = .ok i rest) (ht : step s = .next t) :
    ∃ f, Meaning s.params.stopLength s.codeLength i f ∧ t = boundary s (f (State.afterFetch s.codeLength s)) := by
  obtain ⟨f, m, answer⟩ := step_of_decode hr h
  exact ⟨f, m, Host.Outcome.next.inj (ht.symm.trans answer)⟩

/-- Settles O48: the fetch leaves the state Running, and from there the instruction decides (`Meaning.run_state`). -/
theorem runStateTransitions : Obligations.RunStateTransitions := by
  intro s t i rest hr h ht
  obtain ⟨f, m, rfl⟩ := next_of_decode hr h ht
  obtain ⟨halted, stopped⟩ := m.run_state (State.running_afterFetch hr s.codeLength)
  simp [halted, stopped]

/-- STOP of two bytes has PC = 0x0000 after its fetch exactly when its opcode is at 0xFFFE. -/
theorem add_two_eq_zero_iff (pc : Word) : pc + 2 = 0x0000 ↔ pc = 0xFFFE := by
  constructor <;> intro h <;> bv_omega

/-- PC after STOP's own effect (R292, log 18). -/
theorem stop_pc (s : State) :
    (stopWrap (stopClear { s with stopped := true })).pc =
      if s.params.stopLength = .two ∧ s.pc = 0x0000 ∧ s.params.stopPadWrap = .cornerCase then 0x0001 else s.pc := by
  have kept := stays_stopClear { s with stopped := true }
  have params := (path_stopClear { s with stopped := true }).params_eq
  simp only [stopWrap, kept.pc, params]

/-- Settles O49: the fetch leaves PC past the instruction, and of the others than control flow STOP alone may write it. -/
theorem programCounterAdvancesPastInstruction : Obligations.ProgramCounterAdvancesPastInstruction := by
  intro s t i rest hr h plain ht
  obtain ⟨f, m, rfl⟩ := next_of_decode hr h ht
  rw [boundary_pc]
  by_cases hi : i = .stop
  · subst hi
    obtain ⟨-, hb⟩ | ⟨⟨notStop, -⟩, -⟩ := (decode_inv h).2
    · have length : opcodeLength s.params.stopLength (s.byteAt s.pc) = s.params.stopLength.toNat := by rw [hb]; rfl
      rw [m.eq_of_stop, stop_pc, State.pc_afterFetch, State.params_afterFetch, State.codeLength, length]
      cases s.params.stopLength with
      | one => simp
      | two =>
        have wraps : s.pc + BitVec.ofNat 16 StopLength.two.toNat = 0x0000 ↔ s.pc = 0xFFFE := add_two_eq_zero_iff s.pc
        simp only [wraps, true_and]
        by_cases top : s.pc = 0xFFFE
        · simp only [top, true_and, if_true]; rfl
        · simp only [top, false_and, if_false]
    · exact absurd rfl notStop
  · rw [if_neg (fun stop => hi stop.1)]
    have kept : (f (State.afterFetch s.codeLength s)).pc = (State.afterFetch s.codeLength s).pc := by
      rcases m.pc_and_run_state with ⟨rfl⟩ | ⟨stop⟩ | ⟨flow, -⟩ | ⟨stays⟩
      · rw [m.eq_of_halt]
      · exact absurd stop hi
      · rw [plain] at flow; cases flow
      · exact (stays _).pc
    exact kept.trans (State.pc_afterFetch _ s)

end Sys2Proof.Machine
end

section
/-! The timing of 70_reset_and_hazards.md: the table of R358 against the accesses that the operations make. -/

namespace Sys2Proof.Machine

/-! ## The table by families -/

section
variable (s : State)

theorem busAccesses_ld (d o : Operand8) (h : ¬(d = .hlInd ∧ o = .hlInd)) :
    busAccesses (Instr.ld d o) s = 1 + (operandCost o + operandCost d) := by
  rcases d with r | _ <;> rcases o with q | _
  · cases r <;> cases q <;> rfl
  · cases r <;> rfl
  · cases q <;> rfl
  · exact absurd ⟨rfl, rfl⟩ h

theorem busAccesses_ldImm (d : Operand8) (v : Byte) : busAccesses (Instr.ldImm d v) s = 2 + operandCost d := by
  rcases d with r | _
  · cases r <;> rfl
  · rfl

theorem busAccesses_alu (op : AluOp) (o : Operand8) : busAccesses (Instr.alu op o) s = 1 + operandCost o := by
  rcases o with r | _
  · cases op <;> cases r <;> rfl
  · cases op <;> rfl

theorem busAccesses_inc (o : Operand8) : busAccesses (Instr.inc o) s = 1 + (operandCost o + (0 + operandCost o)) := by
  rcases o with r | _
  · cases r <;> rfl
  · rfl

theorem busAccesses_dec (o : Operand8) : busAccesses (Instr.dec o) s = 1 + (operandCost o + (0 + operandCost o)) := by
  rcases o with r | _
  · cases r <;> rfl
  · rfl

theorem busAccesses_shift (op : ShiftOp) (o : Operand8) :
    busAccesses (Instr.shift op o) s = 2 + (operandCost o + (0 + operandCost o)) := by
  rcases o with r | _
  · cases op <;> cases r <;> rfl
  · cases op <;> rfl

theorem busAccesses_bit (k : Fin 8) (o : Operand8) : busAccesses (Instr.bit k o) s = 2 + operandCost o := by
  rcases o with r | _
  · fin_cases k <;> cases r <;> rfl
  · fin_cases k <;> rfl

theorem busAccesses_res (k : Fin 8) (o : Operand8) :
    busAccesses (Instr.res k o) s = 2 + (operandCost o + operandCost o) := by
  rcases o with r | _
  · fin_cases k <;> cases r <;> rfl
  · fin_cases k <;> rfl

theorem busAccesses_set (k : Fin 8) (o : Operand8) :
    busAccesses (Instr.set k o) s = 2 + (operandCost o + operandCost o) := by
  rcases o with r | _
  · fin_cases k <;> cases r <;> rfl
  · fin_cases k <;> rfl

/-- A conditional call makes the accesses of the push only when it is taken (R250). -/
theorem busAccesses_callCond (cc : Cond) (t : Word) :
    busAccesses (Instr.callCond cc t) s = 3 + (if s.cond cc then 2 else 0) := by
  cases cc <;> exact (apply_ite (3 + ·) (s.cond _ = true) 2 0).symm

theorem busAccesses_retCond (cc : Cond) :
    busAccesses (Instr.retCond cc) s = 1 + (if s.cond cc then 2 else 0) := by
  cases cc <;> exact (apply_ite (1 + ·) (s.cond _ = true) 2 0).symm

/-! ## The accesses of the operations -/

theorem cost_setPair (p : Pair) (v : Word) : Cost 0 s (s.setPair p v) :=
  .zero (s.setPair_cycles p v) (s.setPair_log p v) (s.setPair_params p v)

theorem cost_stop : Cost 0 s (stopWrap (stopClear { s with stopped := true })) :=
  Cost.trans (s := s) (t := { s with stopped := true }) (.zero rfl rfl rfl) ((cost_stopClear _).trans (cost_stopWrap _))

end

/-- An instruction makes one access for each of its bytes and those of its operation; STOP's length is the parameter's. -/
theorem Meaning.busAccesses_eq {s : State} {n : Nat} {i : Instr} {f : State → State}
    (m : Meaning s.params.stopLength n i f) : ∃ k, busAccesses i s = n + k ∧ Cost k s (f s) := by
  cases m with
  | ld d o h => exact ⟨_, busAccesses_ld s d o h, cost_move s d o⟩
  | ldImm d v => exact ⟨_, busAccesses_ldImm s d v, cost_write8 s d v⟩
  | alu op o => exact ⟨_, busAccesses_alu s op o, cost_aluOperand s op o⟩
  | inc o => exact ⟨_, busAccesses_inc s o, cost_incOperand s o⟩
  | dec o => exact ⟨_, busAccesses_dec s o, cost_decOperand s o⟩
  | shift op o => exact ⟨_, busAccesses_shift s op o, cost_cbShift s op o⟩
  | bit k o => exact ⟨_, busAccesses_bit s k o, cost_cbBit s k o⟩
  | res k o => exact ⟨_, busAccesses_res s k o, cost_cbRes s k o⟩
  | set k o => exact ⟨_, busAccesses_set s k o, cost_cbSet s k o⟩
  | callCond cc t => exact ⟨_, busAccesses_callCond s cc t, cost_callIf s _ t⟩
  | retCond cc => exact ⟨_, busAccesses_retCond s cc, cost_retIf s _⟩
  | jpCond cc t => exact ⟨0, by cases cc <;> rfl, cost_jumpIf s _ t⟩
  | jrCond cc e => exact ⟨0, by cases cc <;> rfl, cost_jumpRelIf s _ e⟩
  | aluImm op v => exact ⟨0, by cases op <;> rfl, cost_aluA s op v⟩
  | ldPair p v => exact ⟨0, by cases p <;> rfl, cost_setPair s p v⟩
  | incPair p => exact ⟨0, by cases p <;> rfl, cost_setPair s p _⟩
  | decPair p => exact ⟨0, by cases p <;> rfl, cost_setPair s p _⟩
  | addHl p => exact ⟨0, by cases p <;> rfl, .zero rfl rfl rfl⟩
  | push p => exact ⟨2, by cases p <;> rfl, cost_push16 s _⟩
  | pop p => exact ⟨2, by cases p <;> rfl, cost_popPair s p⟩
  | rst y => exact ⟨2, by fin_cases y <;> rfl, cost_call s _⟩
  | callA16 t => exact ⟨2, rfl, cost_call s t⟩
  | ret => exact ⟨2, rfl, cost_ret s⟩
  | reti => exact ⟨2, rfl, (cost_ret s).trans (u := { Machine.ret s with ime := true }) (.zero rfl rfl rfl)⟩
  | ldIndA16Sp a => exact ⟨2, rfl, (cost_memWrite s a _).trans (cost_memWrite _ _ _)⟩
  | ldAIndBc | ldAIndDe | ldAIndA16 | ldhAIndA8 | ldAIndC => exact ⟨1, rfl, cost_loadA s _⟩
  | ldIndBcA | ldIndDeA | ldIndA16A | ldhIndA8A | ldIndCA => exact ⟨1, rfl, cost_memWrite s _ _⟩
  | ldAIndHlInc | ldAIndHlDec => exact ⟨1, rfl, (cost_loadA s _).trans (cost_setPair _ .hl _)⟩
  | ldIndHlIncA | ldIndHlDecA => exact ⟨1, rfl, (cost_memWrite s _ _).trans (cost_setPair _ .hl _)⟩
  | stop => exact ⟨0, rfl, cost_stop s⟩
  | ldSpHl | ldHlSpE8 | addSpE8 | daa | cpl | scf | ccf | rlca | rrca | rla | rra | jpA16 | jpHl | jrE8 | nop | halt | di
  | ei => exact ⟨0, rfl, .zero rfl rfl rfl⟩

/-! ## The tick -/

/-- The table reads F, for the conditions, and the parameters, for STOP. -/
theorem busAccesses_congr {s t : State} (hf : t.f = s.f) (hp : t.params = s.params) (i : Instr) :
    busAccesses i t = busAccesses i s := by
  unfold busAccesses
  rw [State.cond_congr hf .nz, State.cond_congr hf .z, State.cond_congr hf .nc, State.cond_congr hf .c, hp]

/-- The boundary calls the hook once and counts nothing (R108). -/
theorem syncCount_boundary (s u : State) : syncCount (boundary s u).log = syncCount u.log + 1 := by
  unfold boundary
  split <;> rfl

/-- The accesses of an executed tick: those of the fetch and those of the operation. -/
theorem cost_of_decode {s : State} {i : Instr} {rest : List Byte} (hr : s.running)
    (h : decode s.params.stopLength s.codeAt = .ok i rest) :
    ∃ u, step s = .next (boundary s u) ∧ Cost (busAccesses i s) s u := by
  obtain ⟨f, m, answer⟩ := step_of_decode hr h
  refine ⟨_, answer, ?_⟩
  rw [← State.params_afterFetch s.codeLength s] at m
  obtain ⟨k, table, operation⟩ := m.busAccesses_eq
  rw [← busAccesses_congr (State.f_afterFetch s.codeLength s) (State.params_afterFetch s.codeLength s), table]
  exact (cost_afterFetch s s.codeLength).trans operation

/-- Settles O50: by the three kinds of a step, the executed tick by the accesses of its fetch and its operation. -/
theorem busAccessTimingTable : Obligations.BusAccessTimingTable := by
  refine ⟨fun s i rest hr h => ?executed, fun s t b p ht => ?fault, fun s => step_idle⟩
  case executed =>
    obtain ⟨u, answer, cost⟩ := cost_of_decode hr h
    refine ⟨_, answer, (boundary_cycles s u).trans cost.cycles, ?_⟩
    rw [syncCount_boundary, cost.log]
  case fault =>
    rcases step_kinds s with idle | ⟨hr, i, rest, h⟩ | ⟨hr, unmapped⟩
    · rw [step_idle idle] at ht; cases ht
    · obtain ⟨f, -, answer⟩ := step_of_decode hr h
      rw [answer] at ht; cases ht
    · rw [step_of_unmapped hr unmapped] at ht
      cases ht
      exact ⟨rfl, (cost_read s).log⟩

end Sys2Proof.Machine
end

section
/-! What every step keeps of memory and of the state (20_memory.md R57 to R61, 10_state.md R24 and R30), and construction
(10_state.md R35, 70_reset_and_hazards.md R350, R351), and register writes (R10). -/

namespace Sys2Proof.Machine

/-! ## The elementary effects on memory -/

theorem State.byteAt_congr {s t : State} (hm : t.mem = s.mem) (hp : t.params = s.params) (a : Word) :
    t.byteAt a = s.byteAt a := by
  rw [State.byteAt, State.byteAt, hm, hp]

theorem State.memOk_congr {s t : State} (hm : t.mem = s.mem) (hp : t.params = s.params) (h : s.memOk) : t.memOk := by
  rw [State.memOk, hm, hp]
  exact h

theorem Micro.memOk {s t : State} (m : Micro s t) (h : s.memOk) : t.memOk := by
  cases m with
  | regs _ quiet => exact State.memOk_congr quiet.mem quiet.params h
  | write a v => exact memOk_memWrite h a v
  | clearIe => exact State.memOk_poke h _ _
  | read | halt | stop => exact h

/-- No elementary effect changes a byte of ROM or UNUSABLE: a CPU write by its policy, STOP's clear by its address. -/
theorem Micro.byteAt_readOnly {s t : State} (m : Micro s t) {b : Word} (hb : (region b).readOnly = true) :
    t.byteAt b = s.byteAt b := by
  cases m with
  | regs _ quiet => exact State.byteAt_congr quiet.mem quiet.params b
  | write a v => exact s.byteAt_storePolicy_readOnly a b v hb
  | clearIe =>
    have ne : b ≠ 0xFFFF := by rintro rfl; cases hb
    exact s.byteAt_poke_other _ ne
  | read | halt | stop => rfl

/-- A write reaches an address of working RAM exactly when it reaches its echo (R59, R60). -/
theorem mem_storeTargets_echo {a b : Word} (low : 0xC000 ≤ b.toNat) (high : b.toNat ≤ 0xDDFF) :
    b + 0x2000 ∈ storeTargets a ↔ b ∈ storeTargets a := by
  unfold storeTargets
  split_ifs <;> simp only [List.not_mem_nil, List.mem_cons, or_false] <;> bv_omega

theorem Micro.mirrored {s t : State} (m : Micro s t) (hm : s.memOk) (h : s.mirrored) : t.mirrored := by
  intro b low high
  have before := h b low high
  cases m with
  | regs _ quiet =>
    have same := State.byteAt_congr quiet.mem quiet.params
    rw [same, same, before]
  | write a v =>
    have after (c : Word) : (memWrite a v s).byteAt c = if c ∈ storeTargets a then v else s.byteAt c :=
      State.byteAt_storePolicy hm a c v
    simp only [after, mem_storeTargets_echo low high, before]
  | clearIe =>
    have ne : b ≠ 0xFFFF := by rintro rfl; simp at high
    have ne_echo : b + 0x2000 ≠ 0xFFFF := by bv_omega
    rw [s.byteAt_poke_other _ ne, s.byteAt_poke_other _ ne_echo, before]
  | read | halt | stop => exact before

/-- The boundary writes neither memory nor parameters. -/
theorem byteAt_boundary (s u : State) (a : Word) : (boundary s u).byteAt a = u.byteAt a := by rw [boundary_eq]; rfl
theorem memOk_boundary (s : State) {u : State} (h : u.memOk) : (boundary s u).memOk := by rw [boundary_eq]; exact h

/-! ## Memory over a step -/

/-- Settles O51: the elementary effects keep such a byte, and so does the boundary. -/
theorem romAndUnusableNeverChange : Obligations.RomAndUnusableNeverChange := by
  intro s t h b hb
  have readOnly : (region b).readOnly = true := (readOnly_iff b).2 hb
  exact step_keeps (P := fun t => t.byteAt b = s.byteAt b) (fun _ _ m hs => (m.byteAt_readOnly readOnly).trans hs)
    (fun s u hu => (byteAt_boundary s u b).trans hu) h rfl

theorem memOk_step {s t : State} (hm : s.memOk) (h : step s = .next t) : t.memOk :=
  step_keeps (fun _ _ m => m.memOk) (fun s _ => memOk_boundary s) h hm

/-- Settles O52: in a canonical memory, which every elementary effect leaves canonical, a write reaches both mirrors or
neither. -/
theorem mirrorIsKeptByEveryStep : Obligations.MirrorIsKeptByEveryStep := by
  intro s t hm mirrored h
  refine (step_keeps (P := fun u => u.memOk ∧ u.mirrored) (fun _ _ m hs => ?micro) (fun s u hu => ?boundary) h
    ⟨hm, mirrored⟩).2
  case micro => exact ⟨m.memOk hs.1, m.mirrored hs.1 hs.2⟩
  case boundary =>
    refine ⟨memOk_boundary s hu.1, fun a low high => ?_⟩
    rw [byteAt_boundary, byteAt_boundary]
    exact hu.2 a low high

/-! ## The invariant -/

theorem step_f {s t : State} (hf : s.f &&& 0x0F = 0) (h : step s = .next t) : t.f &&& 0x0F = 0 := by
  refine step_keeps (P := fun u => u.f &&& 0x0F = 0) (fun _ _ m hs => ?micro) (fun s u hu => ?boundary) h hf
  case micro =>
    rcases m.fKeptOrLowNibbleZero with kept | low
    · rw [kept]; exact hs
    · exact low
  case boundary => rw [boundary_eq]; exact hu

/-- Halted and Stopped are entered from Running alone, and by different instructions (R101). -/
theorem step_not_halted_and_stopped {s t : State} (hs : ¬(s.halted = true ∧ s.stopped = true)) (h : step s = .next t) :
    ¬(t.halted = true ∧ t.stopped = true) := by
  rcases step_kinds s with idle | ⟨hr, i, rest, decoded⟩ | ⟨hr, unmapped⟩
  · rw [step_idle idle] at h
    exact Host.Outcome.next.inj h ▸ hs
  · obtain ⟨halted, stopped⟩ := runStateTransitions s t i rest hr decoded h
    rw [halted, stopped]
    rintro ⟨rfl, stop⟩
    cases stop
  · rw [step_of_unmapped hr unmapped] at h
    cases h

/-- Settles O53: clause by clause. -/
theorem stepKeepsInvariant : Obligations.StepKeepsInvariant := by
  rintro s t ⟨memOk, low, access, single⟩ h
  refine ⟨memOk_step memOk h, step_f low h, ?_, step_not_halted_and_stopped single h⟩
  rw [parametersAreFixed s t h]
  exact access

/-! ## Construction -/

/-- The first byte of an image in the ROM window is read at its address, listed or not. -/
theorem Memory.read_ofImage_cons_zero {p : Params} (v : Byte) (img : List Byte) {a : Nat} (ha : a < romWindow) :
    Memory.read p (Memory.ofImage p a (v :: img)) a = v := by
  rw [Memory.ofImage, if_pos ha]
  split
  case isTrue blank =>
    rw [blank]
    exact Memory.read_unlisted fun c hc => (Memory.mem_ofImage hc).1
  case isFalse => simp only [Memory.read, if_true]

/-- The bytes after it are read from the image that begins one address later. -/
theorem Memory.read_ofImage_cons_succ {p : Params} (v : Byte) (img : List Byte) {a : Nat} (ha : a < romWindow) (k : Nat) :
    Memory.read p (Memory.ofImage p a (v :: img)) (a + (k + 1)) =
      Memory.read p (Memory.ofImage p (a + 1) img) (a + (k + 1)) := by
  rw [Memory.ofImage, if_pos ha]
  split
  case isTrue => rfl
  case isFalse => rw [Memory.read, if_neg (by omega)]

/-- Below the end of the ROM window an image gives its own bytes; what it does not reach reads as unlisted (R351). -/
theorem Memory.read_ofImage {p : Params} (img : List Byte) (a k : Nat) :
    Memory.read p (Memory.ofImage p a img) (a + k) =
      if a + k < romWindow then img.getD k (Memory.blank p (a + k)) else Memory.blank p (a + k) := by
  induction img generalizing a k with
  | nil => simp only [Memory.ofImage, Memory.read, List.getD_nil, ite_self]
  | cons v img ih =>
    by_cases ha : a < romWindow
    · cases k with
      | zero => rw [Nat.add_zero, Memory.read_ofImage_cons_zero v img ha, if_pos ha]; rfl
      | succ k =>
        rw [Memory.read_ofImage_cons_succ v img ha, show a + (k + 1) = a + 1 + k by omega, ih, List.getD_cons_succ]
    · rw [Memory.ofImage, if_neg ha, if_neg (by omega)]
      rfl

theorem byteAt_construct (p : Params) (img : List Byte) (a : Word) :
    (State.construct p img).byteAt a = if a.toNat ≤ 0x7FFF then img.getD a.toNat p.romPad else p.memFill := by
  have read := Memory.read_ofImage (p := p) img 0 a.toNat
  have window : a.toNat < romWindow ↔ a.toNat ≤ 0x7FFF := Nat.lt_succ_iff
  simp only [Nat.zero_add, Memory.blank, window] at read
  refine read.trans ?_
  split <;> rfl

/-- Settles O56: the registers by definition, the bytes by those of the image. -/
theorem constructionSetsRegistersAndMemory : Obligations.ConstructionSetsRegistersAndMemory :=
  fun p img => ⟨rfl, rfl, rfl, rfl, byteAt_construct p img⟩

theorem reset_eq_construct : State.reset = State.construct Params.default [] := rfl

/-- Settles O57: the empty image reads as the two defaults, both 0x00. -/
theorem resetIsDefaultConstruction : Obligations.ResetIsDefaultConstruction := by
  refine ⟨reset_eq_construct, fun a => ?_, ⟨rfl, rfl⟩, rfl⟩
  rw [reset_eq_construct, byteAt_construct]
  exact ite_self _

theorem inv_construct (p : Params) (img : List Byte) (h : 1 ≤ p.cyclesPerAccess) : (State.construct p img).Inv :=
  ⟨Memory.ofImage_wf img 0, BitVec.zero_and, h, fun both => Bool.false_ne_true both.1⟩

/-- Working RAM and its echo both lie above the image, where every byte is `MEM_FILL`. -/
theorem mirrored_construct (p : Params) (img : List Byte) : (State.construct p img).mirrored := by
  intro a low high
  rw [byteAt_construct, byteAt_construct, if_neg (by bv_omega), if_neg (by omega)]

/-- Settles O54: reset is a construction, and its `CYCLES_PER_ACCESS` is one more than the value left open. -/
theorem constructionMeetsInvariant : Obligations.ConstructionMeetsInvariant := by
  refine ⟨?reset, fun p img h => ⟨inv_construct p img h, mirrored_construct p img⟩⟩
  rw [reset_eq_construct]
  exact ⟨inv_construct _ [] (Nat.le_add_left 1 Config.openCycles), mirrored_construct _ []⟩

/-! ## Register writes -/

/-- A register write touches none of the other fields. -/
theorem setReg_frame (s : State) (r : Reg8) (v : Byte) :
    s.setReg r v =
      { s with
        a := (s.setReg r v).a, b := (s.setReg r v).b, c := (s.setReg r v).c, d := (s.setReg r v).d,
        e := (s.setReg r v).e, h := (s.setReg r v).h, l := (s.setReg r v).l } := by
  cases r <;> rfl

/-- Settles O7: the written register reads back, and any other as before. -/
theorem registerWriteChangesThatRegisterAlone : Obligations.RegisterWriteChangesThatRegisterAlone := by
  intro s r q v
  refine ⟨?_, setReg_frame s r v⟩
  split
  case isTrue same => rw [same, State.reg_setReg_same]
  case isFalse other => exact s.reg_setReg_other r q v other

end Sys2Proof.Machine
end

section
/-! Independence: two runs that agree under a view that hides IME, the timing or the trace sink, and always the events, go on
agreeing under it. The three views of the statements are cases of one, so each operation is shown to respect it once. -/

namespace Sys2Proof.Machine

/-! ## Views -/

/-- What a view shows beside the registers, the run state, memory and the parameters the rules read: IME (R29), the count
and its step (R33, R103), and whether a trace sink is attached (R340). -/
structure View where
  ime : Bool
  timing : Bool
  sink : Bool

/-- The state without the events and without what the view hides. -/
def View.of (V : View) (s : State) : State :=
  { s with
    log := []
    ime := V.ime && s.ime
    cycles := if V.timing then s.cycles else 0
    params := { s.params with
      traceSink := V.sink && s.params.traceSink
      cyclesPerAccess := if V.timing then s.params.cyclesPerAccess else 1 } }

theorem bare_eq_view : State.bare = View.of ⟨true, true, false⟩ := rfl
theorem untimed_eq_view : State.untimed = View.of ⟨true, false, false⟩ := rfl
theorem maskless_eq_view : State.maskless = View.of ⟨false, true, true⟩ := rfl

/-- `f` takes states that agree under the view to states that agree under it. -/
def View.Respects (V : View) (f : State → State) : Prop := ∀ s t, V.of s = V.of t → V.of (f s) = V.of (f t)

/-- `x` reads the same of states that agree under the view. -/
def View.Reads (V : View) {α : Type} (x : State → α) : Prop := ∀ s t, V.of s = V.of t → x s = x t

section
variable {V : View}

/-- An operation respects the view when what the view shows after it is computed from what it shows before. -/
theorem View.Respects.of_factor {f : State → State} (g : State → State) (h : ∀ s, V.of (f s) = g (V.of s)) :
    V.Respects f := by
  intro s t e
  rw [h s, h t, e]

/-- Such is an operation that neither reads nor writes what the view hides. -/
theorem View.Respects.of_commute {f : State → State} (h : ∀ s, V.of (f s) = f (V.of s)) : V.Respects f :=
  .of_factor f h

/-- A value is read the same when the view shows all it is read of. -/
theorem View.Reads.of_factor {α : Type} {x : State → α} (h : ∀ s, x s = x (V.of s)) : V.Reads x := by
  intro s t e
  rw [h s, e, ← h t]

theorem View.Respects.comp {f g : State → State} (hg : V.Respects g) (hf : V.Respects f) : V.Respects fun s => g (f s) :=
  fun _ _ e => hg _ _ (hf _ _ e)

theorem View.Reads.map₂ {α β γ : Type} (f : α → β → γ) {x : State → α} {y : State → β} (hx : V.Reads x)
    (hy : V.Reads y) : V.Reads fun s => f (x s) (y s) :=
  fun s t e => congrArg₂ f (hx s t e) (hy s t e)

/-- An operation on what was read of the state. -/
theorem View.Respects.bind {α : Type} {x : State → α} {g : α → State → State} (hx : V.Reads x)
    (hg : ∀ v, V.Respects (g v)) : V.Respects fun s => g (x s) s := by
  intro s t e
  dsimp only
  rw [hx s t e]
  exact hg _ s t e

end

/-! ## Memory -/

/-- Memory reads the parameters only for what an unlisted address reads as. -/
theorem Memory.read_congr {p q : Params} (h : Memory.blank p = Memory.blank q) (m : List Host.Cell) (a : Nat) :
    Memory.read p m a = Memory.read q m a := by
  induction m with
  | nil => exact congrFun h a
  | cons c m ih => simp only [Memory.read, ih]

theorem Memory.write_congr {p q : Params} (h : Memory.blank p = Memory.blank q) (m : List Host.Cell) (a : Nat) (v : Byte) :
    Memory.write p m a v = Memory.write q m a v := by
  induction m with
  | nil => simp only [Memory.write, h]
  | cons c m ih => simp only [Memory.write, h, ih]

section
variable (V : View)

/-- The view shows the parameters that memory reads. -/
theorem View.blank_eq (s : State) : Memory.blank s.params = Memory.blank (V.of s).params := rfl

theorem View.reads_byteAt (a : Word) : V.Reads (·.byteAt a) :=
  .of_factor fun s => Memory.read_congr (V.blank_eq s) s.mem a.toNat

theorem View.respects_poke (a : Word) (v : Byte) : V.Respects (·.poke a v) :=
  .of_commute fun s =>
    congrArg (fun m => V.of { s with mem := m }) (Memory.write_congr (V.blank_eq s) s.mem a.toNat v)

theorem View.respects_setIme (b : Bool) : V.Respects ({ · with ime := b }) :=
  .of_factor ({ · with ime := V.ime && b }) fun _ => rfl

/-- A bus access advances the count by its step, both shown or both hidden. -/
theorem View.respects_busAccess : V.Respects State.busAccess := by
  obtain ⟨ime, timing, sink⟩ := V
  cases timing with
  | false => exact fun _ _ e => e
  | true =>
    exact .of_factor (fun s => { s with cycles := s.cycles + BitVec.ofNat 64 s.params.cyclesPerAccess }) fun _ => rfl

theorem View.respects_storePolicy (a : Word) (v : Byte) : V.Respects (·.storePolicy a v) := by
  unfold State.storePolicy
  cases region a with
  | rom0 | romx => exact fun _ _ e => e
  | unusable => exact fun _ _ e => e
  | wram =>
    dsimp only
    split
    · exact (V.respects_poke _ v).comp (V.respects_poke a v)
    · exact V.respects_poke a v
  | echo => exact (V.respects_poke _ v).comp (V.respects_poke a v)
  | vram | eram | oam | io | hram | ie => exact V.respects_poke a v

theorem View.respects_memWrite (a : Word) (v : Byte) : V.Respects (memWrite a v) :=
  V.respects_busAccess.comp (V.respects_storePolicy a v)

/-! ## Operands and the stack -/

/-- A CPU write of a value read of the state, at an address read of the state. -/
theorem View.respects_write {a : State → Word} {v : State → Byte} (ha : V.Reads a) (hv : V.Reads v) :
    V.Respects fun s => memWrite (a s) (v s) s :=
  .bind (g := fun a s => memWrite a (v s) s) ha fun a => .bind hv fun v => V.respects_memWrite a v

theorem View.respects_setReg (r : Reg8) (v : Byte) : V.Respects (·.setReg r v) := by
  cases r <;> exact .of_commute fun _ => rfl

theorem View.respects_setPair (p : Pair) (v : Word) : V.Respects (·.setPair p v) := by
  cases p <;> exact .of_commute fun _ => rfl

theorem View.respects_setStackPair (p : StackPair) (v : Word) : V.Respects (·.setStackPair p v) := by
  cases p <;> exact .of_commute fun _ => rfl

theorem View.respects_setFlags (fl : Flags) : V.Respects (·.setFlags fl) := .of_commute fun _ => rfl

theorem View.reads_flags : V.Reads State.flags := .of_factor fun _ => rfl
theorem View.reads_hl : V.Reads State.hl := .of_factor fun _ => rfl
theorem View.reads_cond (cc : Cond) : V.Reads (·.cond cc) := by cases cc <;> exact .of_factor fun _ => rfl
theorem View.reads_stackPair (p : StackPair) : V.Reads (·.stackPair p) := by cases p <;> exact .of_factor fun _ => rfl

theorem View.reads_byteAt_of {a : State → Word} (ha : V.Reads a) : V.Reads fun s => s.byteAt (a s) := by
  intro s t e
  dsimp only
  rw [ha s t e]
  exact V.reads_byteAt _ s t e

theorem View.reads_read8 (o : Operand8) : V.Reads fun s => (read8 o s).1 := by
  cases o with
  | reg r => cases r <;> exact .of_factor fun _ => rfl
  | hlInd => exact V.reads_byteAt_of V.reads_hl

theorem View.respects_read8 (o : Operand8) : V.Respects fun s => (read8 o s).2 := by
  cases o with
  | reg r => exact fun _ _ e => e
  | hlInd => exact V.respects_busAccess

theorem View.respects_write8 (o : Operand8) (v : Byte) : V.Respects (write8 o v) := by
  cases o with
  | reg r => exact V.respects_setReg r v
  | hlInd => exact V.respects_write V.reads_hl (.of_factor fun _ => rfl)

/-- Read an operand, then an operation with its value. -/
theorem View.respects_read8_bind {g : Byte → State → State} (o : Operand8) (hg : ∀ v, V.Respects (g v)) :
    V.Respects fun s => g (read8 o s).1 (read8 o s).2 :=
  .bind (g := fun v s => g v (read8 o s).2) (V.reads_read8 o) fun v => (hg v).comp (V.respects_read8 o)

/-- Read an operand, write flags and a result computed from it and the old flags, the result to the operand. -/
theorem View.respects_update8 (o : Operand8) (r : Byte → Flags → Byte) (fl : Byte → Flags → Flags) :
    V.Respects fun s =>
      write8 o (r (read8 o s).1 (read8 o s).2.flags) ((read8 o s).2.setFlags (fl (read8 o s).1 (read8 o s).2.flags)) :=
  V.respects_read8_bind (g := fun v s => write8 o (r v s.flags) (s.setFlags (fl v s.flags))) o fun v =>
    .bind (g := fun old s => write8 o (r v old) (s.setFlags (fl v old))) V.reads_flags fun old =>
      (V.respects_write8 o (r v old)).comp (V.respects_setFlags (fl v old))

theorem View.respects_pushByte (v : Byte) : V.Respects (pushByte v) :=
  (V.respects_write (a := State.sp) (v := fun _ => v) (.of_factor fun _ => rfl) (.of_factor fun _ => rfl)).comp
    (f := fun s => { s with sp := s.sp - 1 }) (.of_commute fun _ => rfl)

theorem View.respects_push16 (v : Word) : V.Respects (push16 v) :=
  (V.respects_pushByte (lo8 v)).comp (V.respects_pushByte (hi8 v))

theorem View.reads_stackTop : V.Reads State.stackTop := by
  have high : V.Reads fun s => s.byteAt (s.sp + 1) := V.reads_byteAt_of (.of_factor fun _ => rfl)
  have low : V.Reads fun s => s.byteAt s.sp := V.reads_byteAt_of (.of_factor fun _ => rfl)
  exact .map₂ (fun hi lo => BitVec.ofNat 16 (256 * hi.toNat + lo.toNat)) high low

theorem View.respects_afterPop : V.Respects State.afterPop :=
  View.Respects.comp (g := fun s => { s with sp := s.sp + 2 }) (.of_commute fun _ => rfl)
    (V.respects_busAccess.comp V.respects_busAccess)

theorem View.respects_loadA {a : State → Word} (ha : V.Reads a) : V.Respects fun s => loadA (a s) s :=
  .bind (g := fun v s => { s.busAccess with a := v }) (V.reads_byteAt_of ha) fun v =>
    View.Respects.comp (g := fun s => { s with a := v }) (.of_commute fun _ => rfl) V.respects_busAccess

theorem View.respects_storeA {a : State → Word} (ha : V.Reads a) : V.Respects fun s => storeA (a s) s :=
  V.respects_write ha (.of_factor fun _ => rfl)

/-- An access at HL, then the step of the old HL. -/
theorem View.respects_hlStep {f : State → State} (hf : V.Respects f) (step : Word → Word) :
    V.Respects fun s => (f s).setHl (step s.hl) :=
  .bind (g := fun hl s => (f s).setHl (step hl)) V.reads_hl fun hl => (V.respects_setPair .hl (step hl)).comp hf

theorem View.respects_storeSp (a : Word) : V.Respects (storeSp a) :=
  .bind (x := State.sp) (g := fun sp s => memWrite (a + 1) (hi8 sp) (memWrite a (lo8 sp) s)) (.of_factor fun _ => rfl)
    fun sp => (V.respects_memWrite _ (hi8 sp)).comp (V.respects_memWrite a (lo8 sp))

/-! ## Control flow and STOP -/

theorem View.respects_call (t : Word) : V.Respects (call t) :=
  .comp (g := jump t) (.of_commute fun _ => rfl)
    (.bind (x := State.pc) (g := push16) (.of_factor fun _ => rfl) V.respects_push16)

theorem View.respects_ret : V.Respects ret := by
  have pop : V.Respects fun s => { s.afterPop with pc := s.stackTop } :=
    .bind (g := fun t s => { s.afterPop with pc := t }) V.reads_stackTop fun t =>
      View.Respects.comp (g := jump t) (.of_commute fun _ => rfl) V.respects_afterPop
  exact funext ret_eq ▸ pop

theorem View.respects_popPair (p : StackPair) : V.Respects (popPair p) := by
  have pop : V.Respects fun s => s.afterPop.setStackPair p s.stackTop :=
    .bind (g := fun v s => s.afterPop.setStackPair p v) V.reads_stackTop fun v =>
      (V.respects_setStackPair p v).comp V.respects_afterPop
  exact funext (popPair_eq p) ▸ pop

/-- A transfer made when a condition of F holds. -/
theorem View.respects_if (cc : Cond) {f : State → State} (hf : V.Respects f) :
    V.Respects fun s => if s.cond cc then f s else s := by
  refine .bind (g := fun taken s => if taken then f s else s) (V.reads_cond cc) fun taken => ?_
  cases taken
  · exact fun _ _ e => e
  · exact hf

theorem View.reads_stopClears : V.Reads (·.params.stopClears) := .of_factor fun _ => rfl

theorem View.respects_stopClear : V.Respects stopClear := by
  intro s t e
  have same : s.params.stopClears = t.params.stopClears := V.reads_stopClears s t e
  unfold stopClear
  rw [same]
  cases t.params.stopClears with
  | ieRegister => exact V.respects_poke 0xFFFF 0x00 s t e
  | ime => exact V.respects_setIme false s t e
  | both => exact (V.respects_setIme false).comp (V.respects_poke 0xFFFF 0x00) s t e

theorem View.respects_stop : V.Respects fun s => stopWrap (stopClear { s with stopped := true }) :=
  .comp (g := stopWrap) (.of_commute fun _ => rfl)
    (.comp (f := ({ · with stopped := true })) V.respects_stopClear (.of_commute fun _ => rfl))

/-! ## Every instruction -/

theorem Meaning.respects {sl : StopLength} {n : Nat} {i : Instr} {f : State → State} (m : Meaning sl n i f) :
    V.Respects f := by
  cases m with
  | ld d o => exact V.respects_read8_bind o (V.respects_write8 d)
  | ldImm d v => exact V.respects_write8 d v
  | ldPair p v => exact V.respects_setPair p v
  | ldIndA16Sp a => exact V.respects_storeSp a
  | ldAIndBc | ldAIndDe | ldAIndC => exact V.respects_loadA (.of_factor fun _ => rfl)
  | ldAIndA16 a => exact V.respects_loadA (a := fun _ => a) (.of_factor fun _ => rfl)
  | ldhAIndA8 k => exact V.respects_loadA (a := fun _ => highPage k) (.of_factor fun _ => rfl)
  | ldIndBcA | ldIndDeA | ldIndCA => exact V.respects_storeA (.of_factor fun _ => rfl)
  | ldIndA16A a => exact V.respects_storeA (a := fun _ => a) (.of_factor fun _ => rfl)
  | ldhIndA8A k => exact V.respects_storeA (a := fun _ => highPage k) (.of_factor fun _ => rfl)
  | ldAIndHlInc | ldAIndHlDec => exact V.respects_hlStep (V.respects_loadA V.reads_hl) _
  | ldIndHlIncA | ldIndHlDecA => exact V.respects_hlStep (V.respects_storeA V.reads_hl) _
  | alu op o => exact V.respects_read8_bind (g := aluA op) o fun v => .of_commute fun _ => rfl
  | inc o => exact V.respects_update8 o (fun v fl => (inc8 v fl.c).1) fun v fl => (inc8 v fl.c).2
  | dec o => exact V.respects_update8 o (fun v fl => (dec8 v fl.c).1) fun v fl => (dec8 v fl.c).2
  | shift op o =>
    exact V.respects_update8 o (fun v fl => (Machine.shift op v fl.c).1) fun v fl => (Machine.shift op v fl.c).2
  | bit k o =>
    exact V.respects_read8_bind o fun v => View.Respects.of_commute (f := fun s =>
      s.setFlags { z := !v.getLsbD k, n := false, h := true, c := s.flags.c }) fun _ => rfl
  | res k o => exact V.respects_read8_bind o fun v => V.respects_write8 o (v &&& ~~~((1 : Byte) <<< k.val))
  | set k o => exact V.respects_read8_bind o fun v => V.respects_write8 o (v ||| ((1 : Byte) <<< k.val))
  | addHl p | incPair p | decPair p => cases p <;> exact .of_commute fun _ => rfl
  | jpCond cc t => exact V.respects_if cc (f := jump t) (.of_commute fun _ => rfl)
  | jrCond cc e => exact V.respects_if cc (f := jumpRel e) (.of_commute fun _ => rfl)
  | callCond cc t => exact V.respects_if cc (V.respects_call t)
  | retCond cc => exact V.respects_if cc V.respects_ret
  | callA16 t => exact V.respects_call t
  | rst y => exact V.respects_call _
  | ret => exact V.respects_ret
  | reti => exact (V.respects_setIme true).comp V.respects_ret
  | push p => exact .bind (V.reads_stackPair p) V.respects_push16
  | pop p => exact V.respects_popPair p
  | di => exact V.respects_setIme false
  | ei => exact V.respects_setIme true
  | stop => exact V.respects_stop
  | ldSpHl | ldHlSpE8 | aluImm | addSpE8 | daa | cpl | scf | ccf | rlca | rrca | rla | rra | jpA16 | jpHl | jrE8 | nop
  | halt => exact .of_commute fun _ => rfl

/-! ## The tick -/

theorem View.respects_afterFetch (n : Nat) : V.Respects (State.afterFetch n) := by
  induction n with
  | zero => exact fun _ _ e => e
  | succ n ih =>
    exact ih.comp (f := fun s => { s.afterRead with pc := s.pc + 1 })
      (.comp (g := fun s => { s with pc := s.pc + 1 }) (.of_commute fun _ => rfl) V.respects_busAccess)

/-- The boundary changes only the events, which are hidden. -/
theorem View.of_boundary (s u : State) : V.of (boundary s u) = V.of u := by
  rw [boundary_eq]
  rfl

theorem View.reads_pc : V.Reads State.pc := .of_factor fun _ => rfl
theorem View.reads_stopLength : V.Reads (·.params.stopLength) := .of_factor fun _ => rfl

theorem View.reads_codeByte (k : Word) : V.Reads fun s => s.byteAt (s.pc + k) :=
  V.reads_byteAt_of (.of_factor fun _ => rfl)

theorem View.reads_opcode : V.Reads fun s => s.byteAt s.pc := V.reads_byteAt_of V.reads_pc

theorem View.reads_codeAt : V.Reads State.codeAt :=
  .map₂ (fun b tail => b :: tail) V.reads_opcode (.map₂ (fun x y => [x, y]) (V.reads_codeByte 1) (V.reads_codeByte 2))

theorem View.reads_decode : V.Reads fun s => decode s.params.stopLength s.codeAt :=
  .map₂ decode V.reads_stopLength V.reads_codeAt

theorem View.reads_codeLength : V.Reads State.codeLength := .map₂ opcodeLength V.reads_stopLength V.reads_opcode

theorem View.reads_running : V.Reads State.running := .of_factor fun _ => rfl

/-- Steps of states that agree under a view agree under it: what every view shows tells the three kinds of a step apart. -/
theorem View.agree_step (s t : State) (e : V.of s = V.of t) : Agree V.of (step s) (step t) := by
  have running : s.running = t.running := V.reads_running s t e
  have opcode : s.byteAt s.pc = t.byteAt t.pc := V.reads_opcode s t e
  rcases step_kinds s with idle | ⟨hr, i, rest, h⟩ | ⟨hr, unmapped⟩
  · rw [step_idle idle, step_idle (running ▸ idle)]
    exact e
  · have h' : decode t.params.stopLength t.codeAt = .ok i rest := (V.reads_decode s t e).symm.trans h
    obtain ⟨f, m, answer⟩ := step_of_decode hr h
    obtain ⟨f', m', answer'⟩ := step_of_decode (running ▸ hr) h'
    obtain rfl := m.unique m'
    have fetched : V.of (State.afterFetch s.codeLength s) = V.of (State.afterFetch t.codeLength t) := by
      rw [V.reads_codeLength s t e]
      exact V.respects_afterFetch _ s t e
    rw [answer, answer']
    simp only [Agree, V.of_boundary]
    exact m.respects V _ _ fetched
  · rw [step_of_unmapped hr unmapped, step_of_unmapped (running ▸ hr) (opcode ▸ unmapped)]
    exact ⟨opcode, V.reads_pc s t e, V.respects_busAccess s t e⟩

end

/-- Settles O58: `State.bare` hides the events and the trace sink alone. -/
theorem outcomeIndependentOfCollaborators : Obligations.OutcomeIndependentOfCollaborators := by
  rw [Obligations.OutcomeIndependentOfCollaborators, bare_eq_view]
  exact View.agree_step _

/-- Settles O59: `State.untimed` hides the timing too. -/
theorem outcomeIndependentOfTiming : Obligations.OutcomeIndependentOfTiming := by
  rw [Obligations.OutcomeIndependentOfTiming, untimed_eq_view]
  exact View.agree_step _

/-- Settles O60: `State.maskless` hides IME and the events. -/
theorem outcomeIndependentOfInterruptMaster : Obligations.OutcomeIndependentOfInterruptMaster := by
  rw [Obligations.OutcomeIndependentOfInterruptMaster, maskless_eq_view]
  exact View.agree_step _

end Sys2Proof.Machine
end

section
/-! The CB-prefixed instructions of 49_cb_prefixed.md (R300 to R311). -/

namespace Sys2Proof.Machine

/-! ## The words -/

section
variable {sl : StopLength}

/-- After the escape byte every byte is an instruction (R91, R106). -/
theorem decode_escape (x : Byte) : decode sl [0xCB, x] = .ok (decodeSecondary x) [] := rfl

/-- The byte with the fields x, y and z, as its first byte of the quadrant and its distance from there (R82). -/
theorem byteOfFields_eq_add (x : Nat) (y z : Fin 8) :
    byteOfFields x y z = BitVec.ofNat 8 (64 * x) + BitVec.ofNat 8 (8 * y.val + z.val) :=
  BitVec.ofNat_add ..

variable (y z : Fin 8)

theorem decode_shift :
    decode sl [0xCB, BitVec.ofNat 8 (8 * y.val + z.val)] = .ok (Instr.shift (.ofCode y) (.ofCode z)) [] := by
  rw [← byteOfFields_zero, decode_escape, decodeSecondary_shift]

theorem decode_bit : decode sl [0xCB, 0x40 + BitVec.ofNat 8 (8 * y.val + z.val)] = .ok (Instr.bit y (.ofCode z)) [] :=
  (congrArg (fun x => decode sl [0xCB, x]) (byteOfFields_eq_add 1 y z)).symm.trans
    (by rw [decode_escape, decodeSecondary_bit])

theorem decode_res : decode sl [0xCB, 0x80 + BitVec.ofNat 8 (8 * y.val + z.val)] = .ok (Instr.res y (.ofCode z)) [] :=
  (congrArg (fun x => decode sl [0xCB, x]) (byteOfFields_eq_add 2 y z)).symm.trans
    (by rw [decode_escape, decodeSecondary_res])

theorem decode_set : decode sl [0xCB, 0xC0 + BitVec.ofNat 8 (8 * y.val + z.val)] = .ok (Instr.set y (.ofCode z)) [] :=
  (congrArg (fun x => decode sl [0xCB, x]) (byteOfFields_eq_add 3 y z)).symm.trans
    (by rw [decode_escape, decodeSecondary_set])

end

/-! ## Rotates and shifts -/

theorem updatesOperand_shift (op : ShiftOp) :
    UpdatesOperand (Instr.shift op) (fun v s => BitVec.ofNat 8 (shiftValue op v.toNat s.cFlag))
      (fun v s => flagByte (decide (shiftValue op v.toNat s.cFlag = 0)) false false (shiftCarry op v.toNat)) := by
  refine updatesOperand_of (f := shift op) (exec_shift op) (fun v s => ?value) (fun v s => ?flags)
  case value => exact congrArg Prod.fst (shift_eq op v s.cFlag)
  case flags => exact (congrArg (fun r => r.2.toByte) (shift_eq op v s.cFlag)).trans (Flags.toByte_eq ..)

/-- Settles O38: the words by their fields; each form reads an operand, writes F, and last writes the operand. -/
theorem rotateShiftOperand : Obligations.RotateShiftOperand :=
  ⟨fun _ => decode_shift, updatesOperand_shift⟩

/-- Exchanging the nibbles of a byte twice gives the byte back (R307). -/
theorem swap_swap (v : Byte) (c c' : Bool) :
    BitVec.ofNat 8 (shiftValue .swap (BitVec.ofNat 8 (shiftValue .swap v.toNat c)).toNat c') = v := by
  have fits : 16 * (v.toNat % 16) + v.toNat / 16 < 2 ^ 8 := by omega
  have high : (16 * (v.toNat % 16) + v.toNat / 16) / 16 = v.toNat % 16 := by omega
  have low : (16 * (v.toNat % 16) + v.toNat / 16) % 16 = v.toNat / 16 := by omega
  apply BitVec.eq_of_toNat_eq
  simp only [shiftValue, BitVec.toNat_ofNat, Nat.mod_eq_of_lt fits, high, low]
  omega

/-- F is not among the registers (R21). -/
theorem State.reg_setF (s : State) (f : Byte) (q : Reg8) : ({ s with f := f } : State).reg q = s.reg q := by
  cases q <;> rfl

/-- Settles O39: the register holds the byte exchanged twice, and the others are not written. -/
theorem swapIsItsOwnInverse : Obligations.SwapIsItsOwnInverse := by
  intro s r
  have swapped (s : State) := (updatesOperand_shift .swap s).1 r
  refine ⟨_, _, swapped s, swapped _, fun q => ?_⟩
  by_cases hq : q = r
  · subst hq
    rw [State.reg_setReg_same, State.reg_setReg_same]
    exact swap_swap (s.reg q) _ _
  · rw [State.reg_setReg_other _ r q _ hq, State.reg_setF, State.reg_setReg_other _ r q _ hq, State.reg_setF]

/-! ## BIT, RES and SET -/

theorem not_getLsbD_eq (v : Byte) (k : Nat) : (!v.getLsbD k) = decide (v.toNat / 2 ^ k % 2 = 0) := by
  rw [BitVec.getLsbD, Nat.testBit_eq_decide_div_mod_eq, ← decide_not]
  congr 1
  rw [eq_iff_iff]
  omega

theorem cbBit_eq (b : Fin 8) (o : Operand8) (s : State) :
    cbBit b o s = { (read8 o s).2 with
      f := flagByte (decide ((read8 o s).1.toNat / 2 ^ b.val % 2 = 0)) false true s.cFlag } := by
  have carry : (read8 o s).2.flags.c = s.cFlag := by cases o <;> rfl
  rw [← not_getLsbD_eq, ← carry]
  exact State.setFlags_eq ..

/-- Settles O40: the words by their fields; F is written whole, with the C it had, on the state after the read. -/
theorem bitTestSetsZero : Obligations.BitTestSetsZero := by
  refine ⟨fun sl => decode_bit, fun s b => ⟨fun r => ?reg, ?hlInd⟩⟩
  case reg => rw [exec_bit, cbBit_eq]; rfl
  case hlInd => rw [exec_bit, cbBit_eq]; rfl

/-- The byte with bit `b` cleared (R310). -/
def clearBit (b : Fin 8) (v : Byte) : Byte := v &&& ~~~((1 : Byte) <<< b.val)

/-- The byte with bit `b` set (R311). -/
def setBit (b : Fin 8) (v : Byte) : Byte := v ||| ((1 : Byte) <<< b.val)

/-- The mask of RES and SET has that bit alone. -/
theorem getLsbD_mask (b : Fin 8) (k : Nat) : ((1 : Byte) <<< b.val).getLsbD k = decide (k = b.val) := by
  have bit : ((1 : Byte) <<< b.val).getLsbD k = (decide (b.val < 8) && decide (b.val = k)) :=
    BitVec.getLsbD_twoPow b.val k
  rw [bit, decide_eq_true b.isLt, Bool.true_and]
  exact decide_eq_decide.2 eq_comm

theorem getLsbD_clearBit (b : Fin 8) (v : Byte) {k : Nat} (hk : k < 8) :
    (clearBit b v).getLsbD k = if k = b.val then false else v.getLsbD k := by
  rw [clearBit, BitVec.getLsbD_and, BitVec.getLsbD_not, getLsbD_mask]
  by_cases h : k = b.val <;> simp [h, hk]

theorem getLsbD_setBit (b : Fin 8) (v : Byte) (k : Nat) :
    (setBit b v).getLsbD k = if k = b.val then true else v.getLsbD k := by
  rw [setBit, BitVec.getLsbD_or, getLsbD_mask]
  by_cases h : k = b.val <;> simp [h]

/-- Settles O41: the words by their fields; the operand gets the byte with the one bit changed. -/
theorem resetSetOneBit : Obligations.ResetSetOneBit := by
  refine ⟨fun sl b z => ⟨decode_res b z, decode_set b z⟩,
    fun s b => ⟨clearBit b, setBit b, ?bits, ?reg, fun hm => ?hlInd⟩⟩
  case bits => exact fun v k hk => ⟨getLsbD_clearBit b v hk, getLsbD_setBit b v k⟩
  case reg => exact fun r => ⟨exec_res b (.reg r) s, exec_set b (.reg r) s⟩
  case hlInd =>
    have written (v : Byte) : CpuWrite s.hl v s.afterRead (memWrite s.hl v s.afterRead) :=
      cpuWrite_memWrite (s := s.afterRead) hm s.hl v
    exact ⟨⟨_, exec_res b .hlInd s, written _⟩, ⟨_, exec_set b .hlInd s, written _⟩⟩

/-! ## The escape byte alone -/

/-- Settles O42: the escape byte's own meaning and the instruction that the next byte names have the same effect
(`meaning_decodeSecondary`). -/
theorem escapeRunsSecondaryInstruction : Obligations.EscapeRunsSecondaryInstruction := by
  intro s
  exact ⟨secondaryOp (s.byteAt s.pc) (State.afterFetch 1 s), rfl, (meaning_decodeSecondary .two _).exec_eq _⟩

end Sys2Proof.Machine
end

section
/-! SBC (42_arithmetic.md R189), DAA after ADD (R180, R196), PUSH and POP together (46_stack.md R261) and STOP (48_misc.md
R292). -/

namespace Sys2Proof.Machine

/-! ## SBC -/

/-- Settles O19: the one difference with the old carry as the borrow. -/
theorem sbcSetsDifferenceAndFlags : Obligations.SbcSetsDifferenceAndFlags :=
  aluForms_of_aluA 3 fun v s => aluA_of_aluResult (sub8_eq s.a v s.cFlag)

/-! ## DAA after ADD -/

/-- The flags of a byte made of flags (R24). -/
theorem getLsbD_flagByte (z n h c : Bool) :
    (flagByte z n h c).getLsbD 7 = z ∧ (flagByte z n h c).getLsbD 6 = n ∧ (flagByte z n h c).getLsbD 5 = h ∧
      (flagByte z n h c).getLsbD 4 = c := by
  have flags : Flags.ofByte (flagByte z n h c) = ⟨z, n, h, c⟩ := by rw [← Flags.toByte_eq, Flags.ofByte_toByte]
  exact ⟨congrArg Flags.z flags, congrArg Flags.n flags, congrArg Flags.h flags, congrArg Flags.c flags⟩

section
variable {a v : Byte} (ha : isBcd a) (hv : isBcd v)
include ha hv

/-- The low correction is due when the low digits sum to 10 or more: the half carry shows it, or a low nibble above 9. -/
theorem daa_low_after_add :
    (decide (a.toNat % 16 + v.toNat % 16 ≥ 16) || decide ((BitVec.ofNat 8 (a.toNat + v.toNat)).toNat % 16 > 9)) =
      decide (a.toNat % 16 + v.toNat % 16 ≥ 10) := by
  unfold isBcd at ha hv
  rw [← Bool.decide_or, decide_eq_decide, BitVec.toNat_ofNat]
  omega

/-- The high correction is due when the decimal sum is 100 or more: the carry shows it, or a byte above 0x99. -/
theorem daa_high_after_add :
    (decide (a.toNat + v.toNat ≥ 256) || decide ((BitVec.ofNat 8 (a.toNat + v.toNat)).toNat > 0x99)) =
      decide (bcd a + bcd v ≥ 100) := by
  unfold isBcd at ha hv
  rw [← Bool.decide_or, decide_eq_decide, BitVec.toNat_ofNat, bcd, bcd]
  omega

/-- The decimal digits `x` and `y` of the sum, and the byte that holds them: each correction turns a carry out of a decimal
digit into a carry out of a nibble. -/
theorem digits_of_corrected {low high : Bool} (hl : low = true ↔ a.toNat % 16 + v.toNat % 16 ≥ 10)
    (hh : high = true ↔ bcd a + bcd v ≥ 100) :
    ∃ x y, x ≤ 9 ∧ y ≤ 9 ∧ bcd a + bcd v = 10 * x + y + 100 * high.toNat ∧
      a.toNat + v.toNat + (0x06 * low.toNat + 0x60 * high.toNat) = 16 * x + y + 256 * high.toNat := by
  unfold isBcd at ha hv
  rw [bcd, bcd] at hh ⊢
  refine ⟨a.toNat / 16 + v.toNat / 16 + low.toNat - 10 * high.toNat, a.toNat % 16 + v.toNat % 16 - 10 * low.toNat, ?_⟩
  cases low <;> cases high <;>
    simp only [Bool.toNat_false, Bool.toNat_true, Bool.false_eq_true, false_iff, true_iff] at hl hh ⊢ <;> omega

/-- The corrected byte is the decimal sum in decimal digits, and the correction leaves the byte when the sum is 100 or
more. -/
theorem bcd_of_corrected {low high : Bool} {t : Int} (hl : low = true ↔ a.toNat % 16 + v.toNat % 16 ≥ 10)
    (hh : high = true ↔ bcd a + bcd v ≥ 100)
    (ht : t = (BitVec.ofNat 8 (a.toNat + v.toNat)).toNat + (0x06 * low.toNat + 0x60 * high.toNat)) :
    isBcd (BitVec.ofInt 8 t) ∧ bcd (BitVec.ofInt 8 t) = (bcd a + bcd v) % 100 ∧
      (a.toNat + v.toNat ≥ 256 ∨ t < 0 ∨ t > 0xFF ↔ bcd a + bcd v ≥ 100) := by
  obtain ⟨x, y, hx, hy, decimal, binary⟩ := digits_of_corrected ha hv hl hh
  rw [BitVec.toNat_ofNat] at ht
  have byte : (BitVec.ofInt 8 t).toNat = 16 * x + y := by
    rw [BitVec.toNat_ofInt]
    omega
  rw [isBcd, bcd, byte, decimal]
  cases low <;> cases high <;> simp only [Bool.toNat_false, Bool.toNat_true] at * <;> omega

end

/-- Settles O24: ADD leaves the binary sum with its half carry and carry, from which DAA corrects it. -/
theorem decimalAdjustAfterAddIsBcdSum : Obligations.DecimalAdjustAfterAddIsBcdSum := by
  intro s v ha hv rule
  obtain ⟨-, -, forms⟩ := addSetsSumAndFlags
  obtain ⟨-, -, immediate⟩ := forms s
  refine ⟨_, _, immediate v, decimalAdjust.2 _, ?_⟩
  simp only [State.hFlag, State.nFlag, State.cFlag, getLsbD_flagByte, rule, if_true, Bool.false_eq_true, if_false,
    Bool.not_false, Bool.true_and, daa_low_after_add ha hv, daa_high_after_add ha hv]
  obtain ⟨digits, value, carry⟩ := bcd_of_corrected ha hv decide_eq_true_iff decide_eq_true_iff rfl
  exact ⟨digits, value, (Bool.decide_or ..).symm.trans (decide_eq_decide.2 carry)⟩

/-! ## PUSH then POP -/

theorem sp_push16 (v : Word) (s : State) : (push16 v s).sp = s.sp - 2 := by
  have two : s.sp - 1 - 1 = s.sp - 2 := by bv_omega
  simp only [push16, pushByte, memWrite, State.busAccess_sp, State.storePolicy_sp, two]

/-- A writable address is among those its own write reaches (R56). -/
theorem mem_storeTargets_self {a : Word} (h : (region a).readOnly = false) : a ∈ storeTargets a := by
  have writable : ¬(a.toNat ≤ 0x7FFF ∨ 0xFEA0 ≤ a.toNat ∧ a.toNat ≤ 0xFEFF) := by
    rw [← readOnly_iff, h]
    exact Bool.false_ne_true
  obtain ⟨notRom, notUnusable⟩ := not_or.1 writable
  rw [storeTargets, if_neg notRom, if_neg notUnusable]
  split_ifs <;> exact List.mem_cons_self

/-- A write does not reach the next address: its other target is 0x2000 away (R59, R60). -/
theorem succ_not_mem_storeTargets (a : Word) : a + 1 ∉ storeTargets a := by
  unfold storeTargets
  split_ifs <;> simp only [List.not_mem_nil, List.mem_cons, or_false, not_false_eq_true] <;> bv_omega

/-- The word pushed is the word at the top of the stack, when both its bytes were stored. -/
theorem stackTop_push16 {s : State} (hm : s.memOk) (v : Word) (hi : (region (s.sp - 1)).readOnly = false)
    (lo : (region (s.sp - 2)).readOnly = false) : (push16 v s).stackTop = v := by
  obtain ⟨t, ⟨high, -⟩, ⟨low, -⟩⟩ := pushes_push16 hm v
  have next : s.sp - 2 + 1 = s.sp - 1 := by bv_omega
  have apart := succ_not_mem_storeTargets (s.sp - 2)
  rw [next] at apart
  have lowByte := low (s.sp - 2)
  have highByte := (low (s.sp - 1)).trans ((if_neg apart).trans (high (s.sp - 1)))
  rw [if_pos (mem_storeTargets_self lo)] at lowByte
  rw [if_pos (mem_storeTargets_self hi)] at highByte
  rw [State.stackTop, sp_push16, next, lowByte, highByte, ← hi8_eq_ofNat, ← lo8_eq_ofNat, ← imm16_eq_ofNat,
    imm16_lo8_hi8]

/-- A stack pair reads back as written, but for the low nibble of F (R23). -/
theorem stackPair_setStackPair (p : StackPair) (v : Word) (s : State) :
    (s.setStackPair p v).stackPair p = if p = .af then v &&& 0xFFF0 else v := by
  cases p with
  | bc | de | hl => exact concat16_hi8_lo8 v
  | af =>
    have masked : (hi8 v ++ lo8 v) &&& ((0xFF : Byte) ++ (0xF0 : Byte)) = (hi8 v &&& 0xFF) ++ (lo8 v &&& 0xF0) :=
      BitVec.and_append
    have whole : hi8 v &&& 0xFF = hi8 v := BitVec.and_allOnes
    rw [whole] at masked
    exact masked.symm.trans (congrArg (· &&& 0xFFF0) (concat16_hi8_lo8 v))

/-- Settles O34: SP returns by its two steps, and the popped word is the one pushed (`stackTop_push16`). -/
theorem pushThenPopRestores : Obligations.PushThenPopRestores := by
  intro s p q hm
  have popped (t : State) : exec (Instr.pop q) t = .next (t.afterPop.setStackPair q t.stackTop) := by
    rw [exec_pop, popPair_eq]
  refine ⟨_, _, exec_push p s, popped _, ?sp, fun hi lo => ?pair⟩
  case sp =>
    have back : s.sp - 2 + 2 = s.sp := by bv_omega
    rw [State.setStackPair_sp, State.afterPop, sp_push16, back]
  case pair => rw [stackPair_setStackPair, stackTop_push16 hm _ hi lo]

/-! ## STOP -/

theorem stopClear_frame (s : State) : stopClear s = { s with mem := (stopClear s).mem, ime := (stopClear s).ime } := by
  unfold stopClear
  split <;> rfl

theorem byteAt_stopClear {s : State} (hm : s.memOk) (a : Word) :
    (stopClear s).byteAt a = if a = 0xFFFF ∧ s.params.stopClears ≠ .ime then 0x00 else s.byteAt a := by
  have cleared : (s.poke 0xFFFF 0x00).byteAt a = if a = 0xFFFF then 0x00 else s.byteAt a := State.byteAt_poke hm _ a _
  unfold stopClear
  cases s.params.stopClears with
  | ieRegister | both => exact cleared.trans (by simp)
  | ime => exact (if_neg fun h => h.2 rfl).symm

theorem ime_stopClear (s : State) :
    (stopClear s).ime = if s.params.stopClears = .ieRegister then s.ime else false := by
  unfold stopClear
  cases s.params.stopClears <;> rfl

/-- Settles O37: the words by the decoder; the effect is the clear of `STOP_CLEARS` and the one open value of PC, and Stopped
makes every later tick a no-op. -/
theorem stopClearsInterruptEnable : Obligations.StopClearsInterruptEnable := by
  refine ⟨fun pad => rfl, rfl, fun s hm => ?_⟩
  have stopped := (stays_stopClear { s with stopped := true }).stopped
  refine ⟨_, rfl, ?frame, stop_pc s, byteAt_stopClear (s := { s with stopped := true }) hm,
    ime_stopClear { s with stopped := true }, step_of_not_running (.inr stopped)⟩
  case frame =>
    rw [stopClear_frame]
    rfl

end Sys2Proof.Machine
end
